-- ==== Sys2Proof/Word.lean ====
section
/-! DEFINITION. The word types of the RVT-812: what the manual treats as bits of a fixed width.
The conventions are those of 00_scope.md ("Conventions"). -/

namespace Sys2Proof

/-- A byte of the host port (R181), of a record (R196) or of a frame (R193). -/
abbrev Byte := BitVec 8

/-- A line time: a 48-bit count of ticks that wraps at 2^48 (00_scope "Time", R67). -/
abbrev LineTime := BitVec 48

/-- A 32-bit value: a position, a payload, a lateness (R1, R36, R179). -/
abbrev Value32 := BitVec 32

/-- An event number, 1 to 4095, with 0 for "none" where it is optional (00_scope). -/
abbrev EventNo := BitVec 12

/-- A station number, 0 to 63 (00_scope). -/
abbrev StationNo := BitVec 6

/-- A priority, 0 to 7 (R121, R193). -/
abbrev Priority := BitVec 3

/-- A generation, 0 to 3 (R1, R20). -/
abbrev Generation := BitVec 2

/-- The level of a pin: `true` is high. On the line, high is recessive and low is dominant (R107). -/
abbrev Level := Bool

end Sys2Proof
end

