-- ==== Sys2Proof/Syntax.lean ====
section
/-! DEFINITION. The commands of the part: one constructor of `Instr` for each row of
spec/opcode_table.json, with what the row's rule needs from outside. The table itself gives no
operands (log 6 to log 8, log 13). -/

namespace Sys2Proof

/-- The two edges of hardware reset (R106): RESETN asserted, and its release or the completion of
power-up. -/
inductive ResetEdge where
  | assert
  | release
  deriving DecidableEq, Repr

/-- One character as the receiver samples it (R109): the start bit, the eight data bits, the stop bit. -/
structure CharSample where
  start : Level
  data : Byte
  stop : Level
  deriving DecidableEq, Repr

/-- The commands, in the table's order. The seven host commands are writes of their value to the
command register and read their parameters from the command parameter bytes of the state (R184). -/
inductive Instr where
  /-- JOIN (R95, R96). -/
  | join
  /-- LEAVE (R99). -/
  | leave
  /-- RESTART (R104). -/
  | restart
  /-- REARM_SUB (R30). -/
  | rearmSub
  /-- REARM_CMP (R174). -/
  | rearmCmp
  /-- RESTORE (R149). -/
  | restore
  /-- INJECT (R10). -/
  | inject
  /-- STORE: a write of any value to address 0x2B (R187). -/
  | store (value : Byte)
  /-- TABLE_INDEX: a write to address 0x2A (R186). -/
  | tableIndex (value : Byte)
  /-- TABLE_DATA: a write to address 0x30 + offset, offset 0 to 23 (R187). -/
  | tableData (offset : Nat) (value : Byte)
  /-- TIME_SNAPSHOT: a read of time snapshot byte 0 (R70). -/
  | timeSnapshot
  /-- REPORT_WINDOW: byte 0 of the report window is loaded for a read (R190). -/
  | reportWindow
  /-- REPORT_HEAD_REMOVE: byte 7 of the report window has been read to its eighth bit (R190). -/
  | reportHeadRemove
  /-- REGISTER_WRITE: a byte of a transaction at the register window (R181, R183, log 9). `command` is
  the command byte that names it: bit 7 set for a read and clear for a write, bits 6 to 0 its address.
  `data` is the byte on SDI, written or, in a read, not looked at; without it the command byte itself has
  come, and begins a transaction. -/
  | registerWrite (command : Byte) (data : Option Byte)
  /-- HARDWARE_RESET (R106). -/
  | hardwareReset (edge : ResetEdge)
  /-- GAP: the line has been read recessive for `ticks` local ticks (R110). -/
  | gap (ticks : Nat)
  /-- START_EDGE: a recessive-to-dominant transition, and the level its start bit samples (R111). -/
  | startEdge (startSample : Level)
  /-- FRAME_END: the characters that follow the bytes already in the receive frame buffer; when they
  run out before the frame has ended otherwise, a gap has followed them (R112). -/
  | frameEnd (chars : List CharSample)
  /-- LINE_STUCK: the line has been read dominant for `ticks` local ticks (R118). -/
  | lineStuck (ticks : Nat)
  /-- ATTEMPT_BEGIN (R113). -/
  | attemptBegin
  /-- ARBITRATION_LOST at data bit 0 to 15 of bytes 0 and 1 (R114). -/
  | arbitrationLost (dataBit : Nat)
  /-- ARBITRATION_WON (R114). -/
  | arbitrationWon
  /-- BIT_ERROR at a bit time of the frame, counted from the start bit of byte 0 (R115). -/
  | bitError (sample : Nat)
  /-- ATTEMPT_COMPLETE (R116). -/
  | attemptComplete
  /-- LEAVE_NOTICE_PLACED (R100). -/
  | leaveNoticePlaced
  /-- SYNC_ROUND (R80 to R84). -/
  | syncRound
  /-- LISTEN_WINDOW_EXPIRY (R98). -/
  | listenWindowExpiry
  /-- LEAVE_TIMEOUT (R102). -/
  | leaveTimeout
  /-- DISPATCH_START (R15). -/
  | dispatchStart
  /-- ENTRY_EXAMINED (R15). -/
  | entryExamined
  /-- DISPATCH_COMPLETE (R15). -/
  | dispatchComplete
  /-- SCHEDULE_EXPIRY (R46). -/
  | scheduleExpiry
  /-- PIN_TRANSITION: the level of a pin becomes `level`: 0 to 7 the sensed level of a channel (R139,
  R146), 8 the level of EDAT (R162, log 13). -/
  | pinTransition (pin : Nat) (level : Level)
  /-- EDGE_COUNTED: the filter timer of a channel expires (R140). -/
  | edgeCounted (channel : Nat)
  /-- READBACK_FAULT: the mismatch timer of a channel expires (R147). -/
  | readbackFault (channel : Nat)
  /-- HOLD_OFF_EXPIRY: the hold-off timer of a channel expires (R148). -/
  | holdOffExpiry (channel : Nat)
  /-- ENCODER_READ_COMPLETE: the end of SHIFTING with the shift word named, first sample first (R163). -/
  | encoderReadComplete (samples : List Level)
  /-- RECOVERY_EXPIRY (R164). -/
  | recoveryExpiry
  /-- TRANSACTION_END: CSN rises (R181). -/
  | transactionEnd
  deriving DecidableEq, Repr

end Sys2Proof
end

