-- ==== Sys2Proof/Decode.lean ====
section
/-! DEFINITION. The rows of spec/opcode_table.json give no bits (their "fields" are empty and none
has a "fixed"), so no word spells a command. -/

namespace Sys2Proof

/-- The command that the low `nbits` bits of `w` spell by the table's bits: the table gives none to
any row, so none. -/
def decodeTableWord (_nbits _w : Nat) : Option Instr := none

end Sys2Proof
end

