-- ==== Sys2Proof/Config.lean ====
section
/-! DEFINITION. What the part fixes (capacities, lengths in ticks) and the model's one free value. -/

namespace Sys2Proof.Config

/-- The dispatch queue holds at most 8 occurrences (R11). -/
def dispatchCapacity : Nat := 8

/-- The schedule holds at most 32 entries (R43). -/
def scheduleCapacity : Nat := 32

/-- The peer time table holds at most 24 records (R72). -/
def peerCapacity : Nat := 24

/-- EVENT and LEAVE notices share 15 places of the transmit queue (R121). -/
def sharedPlaces : Nat := 15

/-- The report queue holds at most 32 records (R189). -/
def reportCapacity : Nat := 32

/-- A stamp FIFO holds at most 16 edges (R141). -/
def fifoCapacity : Nat := 16

/-- A notice is dropped at its third errored attempt (R125). -/
def erroredLimit : Nat := 3

/-- A record is removed when its age reaches 4 (R81). -/
def ageLimit : Nat := 4

/-- 1 µs is 100 ticks (R137). -/
def ticksPerMicro : Nat := 100

/-- 1 ms is 100,000 ticks (R137). -/
def ticksPerMilli : Nat := 100000

/-- A gap is 11 bit times recessive (R110). -/
def gapBits : Nat := 11

/-- The stuck limit is 25 bit times dominant (R118). -/
def stuckBits : Nat := 25

/-- How many expiries and passings-over a CANCEL can find before it: two for each place (log 35). -/
def cancelLookahead : Nat := 64

/-- THE FREE VALUE (log 3): the `k`-th choice that the manual leaves open, such as the order of two
reports made at one instant (R189). It has no body, so nothing can be proved of it. -/
opaque freeChoice : Nat → Nat

end Sys2Proof.Config
end

