-- ==== Sys2Proof/Machine/State.lean ====
section
/-! DEFINITION. The state of the RVT-812, block by block as 00_scope.md lists the blocks, and the
state right after hardware reset. Plain data throughout. -/

namespace Sys2Proof.Machine

/-! ### Occurrences (chapter 01) -/

/-- Dispatched at this station only, or sent on the line (R5). `here` is the manual's LOCAL. -/
inductive Scope where
  | here
  | line
  deriving DecidableEq, Repr

/-- Where an occurrence came from (R1). -/
inductive Origin where
  | row (r : Fin 32)
  | station (n : StationNo)
  | hostPort
  | entry (e : Fin 64)
  deriving DecidableEq, Repr

/-- The occurrence record (R1). -/
structure Occurrence where
  event : EventNo
  stamp : LineTime
  origin : Origin
  gen : Generation
  payload : Option Value32
  restamped : Bool
  deriving DecidableEq, Repr

/-- The cause a request carries (R16). -/
structure Cause where
  event : EventNo
  stamp : LineTime
  payload : Option Value32
  gen : Generation
  restamped : Bool
  entry : Fin 64
  deriving DecidableEq, Repr

/-- An optional event descriptor when present: an end event or a publish (R33, R36). -/
structure EventDesc where
  event : EventNo
  scope : Scope
  priority : Priority
  deriving DecidableEq, Repr

/-- A row of the binding table (R5). The priority is the stored byte: it is checked only with scope
LINE (R6). -/
structure BindingRow where
  event : EventNo
  scope : Scope
  priority : Byte
  payloadFlag : Bool
  deriving DecidableEq, Repr

/-! ### The subscription table (chapter 02) -/

/-- Origin filter (R27). `inside` is the manual's LOCAL. -/
inductive OriginFilter where
  | any
  | inside
  | line
  | station (n : StationNo)
  deriving DecidableEq, Repr

/-- Policy (R29). -/
inductive Policy where
  | every
  | once
  deriving DecidableEq, Repr

/-- Which position a LATCH or a comparator reads (R36, R169). -/
inductive PosSource where
  | incremental
  | absolute
  deriving DecidableEq, Repr

/-- The kind of an edge (R141). -/
inductive EdgeKind where
  | rise
  | fall
  deriving DecidableEq, Repr

/-- The edge kind a MEASURE asks for (R40). -/
inductive EdgeSelect where
  | rise
  | fall
  | either
  deriving DecidableEq, Repr

/-- The parameters of a DRIVE (R33). -/
structure DriveParams where
  mask : Byte
  onLevels : Byte
  width : BitVec 24
  delay : BitVec 32
  innerCount : Byte
  innerSpacing : BitVec 24
  outerCount : Byte
  outerSpacing : BitVec 32
  tag : BitVec 4
  endEvent : Option EventDesc
  deriving DecidableEq, Repr

/-- The action kind with its parameters (R21, R33 to R41). -/
inductive Action where
  | drive (p : DriveParams)
  | cancel (tag : BitVec 4)
  | latch (source : PosSource) (slot : Fin 8) (publish : Option EventDesc)
  | capture
  | compare (cmp : Fin 2)
  | measure (channel : Fin 8) (select : EdgeSelect) (index : BitVec 4) (slot : Fin 8)
  | preset (value : Value32)
  deriving DecidableEq, Repr

/-- An entry of the subscription table (R21). -/
structure SubEntry where
  event : EventNo
  filter : OriginFilter
  policy : Policy
  action : Action
  armed : Bool
  deriving DecidableEq, Repr

/-! ### The action schedule (chapter 03) -/

/-- The pending phase of a schedule entry (R44). -/
inductive Phase where
  | on
  | off
  deriving DecidableEq, Repr

/-- A schedule entry: every field of R44. -/
structure SchedEntry where
  due : LineTime
  phase : Phase
  mask : Byte
  onLevels : Byte
  width : BitVec 24
  burstStart : LineTime
  trainStart : LineTime
  innerRem : Byte
  innerCount : Byte
  innerSpacing : BitVec 24
  outerRem : Byte
  outerSpacing : BitVec 32
  tag : BitVec 4
  endEvent : Option EventDesc
  originEntry : Fin 64
  event : EventNo
  causeGen : Generation
  causeRestamped : Bool
  late : Bool
  suppressed : Byte
  seq : BitVec 32
  deriving DecidableEq, Repr

/-! ### Line time (chapter 04) -/

/-- A peer's offset, in signed ticks (R72). -/
inductive PeerOffset where
  | absent
  | fresh (v : BitVec 48)
  | used (v : BitVec 48)
  deriving DecidableEq, Repr

/-- A record of the peer time table (R72). -/
structure PeerRecord where
  station : StationNo
  stamp : LineTime
  seq : Byte
  offset : PeerOffset
  synced : Bool
  age : Nat
  deriving DecidableEq, Repr

/-! ### The station (chapter 05) -/

/-- The station state (R91). -/
inductive StationMode where
  | config
  | listen
  | active
  | drifted
  | leaving
  deriving DecidableEq, Repr

/-- The station configuration, held as the host wrote it: JOIN checks it (R95, R187). -/
structure StationConfig where
  station : Byte
  syncBase : Byte
  syncMult : Byte
  limitL : BitVec 16
  limitS : BitVec 16
  lineRate : Byte
  lineDelay : Byte
  deriving DecidableEq, Repr

/-! ### The line engine (chapters 06 and 07) -/

/-- The receiver's state (R110). -/
inductive RxState where
  | off
  | seeking
  | free
  | receiving
  deriving DecidableEq, Repr

/-- The attempt state (R113). -/
inductive AttemptState where
  | waitGap
  | arbitrating
  | sending
  deriving DecidableEq, Repr

/-- The receive frame buffer when it holds a frame: the raw stamp of the start edge and the bytes
read so far (R111, R112). -/
structure RxFrame where
  rawStamp : LineTime
  bytes : List Byte
  deriving DecidableEq, Repr

/-- What a notice of the transmit queue is and carries (R121). -/
inductive NoticeBody where
  | sync
  | event (o : Occurrence)
  | leave (reason : Byte)
  deriving DecidableEq, Repr

/-- A notice of the transmit queue (R121). -/
structure Notice where
  body : NoticeBody
  priority : Priority
  errored : Nat
  inTx : Bool
  deriving DecidableEq, Repr

/-! ### Channels (chapter 08) -/

/-- The direction of a channel (R137). -/
inductive Direction where
  | input
  | output
  deriving DecidableEq, Repr

/-- The output state of a channel of direction OUT (R144 to R150). -/
inductive OutState where
  | enabled
  | heldOff
  | disabled
  deriving DecidableEq, Repr

/-- The channel configuration (R137). -/
structure ChanConfig where
  direction : Direction
  filterMicros : Byte
  rest : Level
  checkDelay : Byte
  holdOffMillis : Byte
  autoRestore : Bool
  deriving DecidableEq, Repr

/-- A filter candidate: the line time of its transition, and the filter timer started with it, its
length and what is left of it in local ticks (R139). -/
structure Candidate where
  stamp : LineTime
  length : Nat
  left : Nat
  deriving DecidableEq, Repr

/-- An edge of a stamp FIFO (R141). -/
structure Edge where
  kind : EdgeKind
  stamp : LineTime
  deriving DecidableEq, Repr

/-- A channel (R137 to R150). `out` is `none` while the direction is IN. -/
structure Channel where
  cfg : ChanConfig
  out : Option OutState
  lastCmd : Level
  sensed : Level
  filtered : Level
  cand : Option Candidate
  fifo : List Edge
  rises : Byte
  falls : Byte
  mismatch : Option Nat
  holdOff : Option Nat
  deriving DecidableEq, Repr

/-! ### The position unit (chapter 09) -/

/-- Position mode (R153). -/
inductive PosMode where
  | off
  | edge
  | quadrature
  | updown
  deriving DecidableEq, Repr

/-- A sign, −1, 0 or +1 (R153). -/
inductive Sign where
  | minus
  | zero
  | plus
  deriving DecidableEq, Repr

/-- Coding of the encoder's word (R153). -/
inductive Coding where
  | binary
  | gray
  deriving DecidableEq, Repr

/-- Encoder clock (R153, R162). -/
inductive EncClock where
  | mhz1
  | khz500
  | khz250
  | khz125
  deriving DecidableEq, Repr

/-- The check of the encoder's word (R153). -/
inductive EncCheck where
  | none
  | high
  | low
  deriving DecidableEq, Repr

/-- The encoder fields of the position configuration (R153), copied into a read record (R160). -/
structure EncConfig where
  totalBits : Byte
  validBits : Byte
  coding : Coding
  clock : EncClock
  recoveryMicros : Byte
  check : EncCheck
  deriving DecidableEq, Repr

/-- The position configuration (R153). -/
structure PosConfig where
  mode : PosMode
  signA : Sign
  signB : Sign
  enc : EncConfig
  deriving DecidableEq, Repr

/-- The reader's state (R160). -/
inductive ReaderState where
  | idle
  | shifting
  | recovery
  deriving DecidableEq, Repr

/-- The read record (R160). -/
structure ReadRecord where
  enc : EncConfig
  start : LineTime
  cause : Cause
  deriving DecidableEq, Repr

/-! ### Comparators, latches, measurements (chapter 10) -/

/-- The mode of a comparator (R172). -/
inductive CmpMode where
  | off
  | once
  | change
  | every
  deriving DecidableEq, Repr

/-- A comparator's configuration (R169). -/
structure CmpConfig where
  source : PosSource
  origin : Value32
  margin : Value32
  maskBits : Byte
  strict : Bool
  mode : CmpMode
  trueSlot : Option (Fin 8)
  falseSlot : Option (Fin 8)
  deriving DecidableEq, Repr

/-- A comparator's runtime state (R170). -/
structure CmpRuntime where
  last : Option Bool
  spent : Bool
  deriving DecidableEq, Repr

/-- A latch slot (R175). -/
structure LatchSlot where
  value : Value32
  stamp : Option LineTime
  source : PosSource
  isNew : Bool
  overrun : Bool
  deriving DecidableEq, Repr

/-- A measurement slot (R178). -/
structure MeasSlot where
  value : Value32
  valid : Bool
  saturated : Bool
  occStamp : Option LineTime
  edge : Option Edge
  restamped : Bool
  deriving DecidableEq, Repr

/-! ### The host port (chapter 11) -/

/-- The reason of EVENT_LOST (R192, R195). -/
inductive LostReason where
  | queueFull
  | abandoned
  | leaveTimeout
  deriving DecidableEq, Repr

/-- The cause of PEER_LOST (R77). -/
inductive PeerLossCause where
  | aged
  | left
  | replaced
  deriving DecidableEq, Repr

/-- The cause of STATE_CHANGE (R92). -/
inductive StateCause where
  | join
  | stepped
  | founded
  | leave
  | left
  | leaveAbandoned
  | leaveTimeout
  | restart
  deriving DecidableEq, Repr

/-- The cause of OUTPUT_RESTORED (R152). -/
inductive RestoreCause where
  | auto
  | host
  deriving DecidableEq, Repr

/-- A report's kind with its parameters (R192). A QUEUE_OVERFLOW record also holds the kind value of
the first report not kept and whether it is open (R189). -/
inductive ReportBody where
  | eventLost (event : EventNo) (reason : LostReason)
  | dispatchOverflow (event : EventNo) (origin : Origin)
  | chainLimit (event : EventNo) (entry : Fin 64)
  | scheduleFull (entry : Fin 64) (event : EventNo)
  | actionLate (lateness : BitVec 32) (entry : Fin 64)
  | cancelled (tag : BitVec 4) (entry : Fin 64) (inner outer suppressed : Byte)
  | scheduleFlushed (count : Nat)
  | captureOverrun (reader : ReaderState) (entry : Fin 64)
  | encoderFault (word : Value32) (entry : Fin 64)
  | outputFault (channel : Fin 8) (driven : Level)
  | outputRestored (channel : Fin 8) (cause : RestoreCause)
  | syncState (mode : StationMode) (median : Value32)
  | stateChange (mode : StationMode) (cause : StateCause)
  | peerJoined (station : StationNo) (synced : Bool)
  | peerLost (station : StationNo) (cause : PeerLossCause)
  | peerTableFull (station : StationNo)
  | stationClash (seq : Byte)
  | rxErrors (count : Nat)
  | lineStuck
  | lineFree (ticks : BitVec 32)
  | queueOverflow (count : Nat) (first : Byte) (isOpen : Bool)
  deriving DecidableEq, Repr

/-- A record of the report queue (R189). -/
structure Report where
  body : ReportBody
  time : LineTime
  deriving DecidableEq, Repr

/-- The configuration error code (R188). -/
inductive ConfigError where
  | none
  | bindEvent
  | bindPriority
  | bindPayload
  | subEvent
  | subFilter
  | subPolicy
  | subKind
  | subRange
  | driveNothing
  | driveWidth
  | driveOuter
  | subEndEvent
  | cmpRange
  | chanRange
  | posRange
  | tableIndex
  | joinStation
  | joinSync
  | joinLimits
  | joinRate
  | joinPosition
  deriving DecidableEq, Repr

/-- The outcome of the command status (R184). -/
inductive CmdOutcome where
  | none
  | taken
  | refused
  | badParameter
  | checkFailed
  | accessRefused
  deriving DecidableEq, Repr

/-- The command status: source, outcome, detail (R184). -/
structure CmdStatus where
  source : Byte
  outcome : CmdOutcome
  detail : Byte
  deriving DecidableEq, Repr

/-- The direction of a host port transaction (R181). -/
inductive Transfer where
  | read
  | write
  deriving DecidableEq, Repr

/-- An open host port transaction: its direction and the address of its next data byte (R181). -/
structure Transaction where
  dir : Transfer
  next : BitVec 7
  deriving DecidableEq, Repr

/-! ### The blocks -/

/-- What the line engine keeps (chapters 06 and 07). `txClock` is the local ticks since the start edge of
the own frame was read, from which the attempt times its bits (R113). `stuckFor` is the ticks of line time
since the setting of the line-stuck flag, while it is set (R119). `awaitGap` says that a bit error has ended
an attempt and no gap has come since (R115). -/
structure LineEngine where
  rx : RxState
  rxFrame : Option RxFrame
  recessiveRun : Nat
  dominantRun : Nat
  stuck : Bool
  stuckTime : LineTime
  stuckFor : Int
  attempt : AttemptState
  attemptBytes : List Byte
  txq : List Notice
  rxErrors : Nat
  txl : Level
  txClock : Option Nat
  awaitGap : Bool
  deriving DecidableEq, Repr

/-- What the line time unit keeps (chapter 04). -/
structure TimeUnit where
  lineTime : LineTime
  slew : Int
  peers : List PeerRecord
  syncTimer : Option Nat
  lastMedian : BitVec 48
  lastInStep : Bool
  outCount : Nat
  inCount : Nat
  alone : Bool
  syncCount : Byte
  prevEdge : Option LineTime
  peerFullReported : Bool
  deriving DecidableEq, Repr

/-- What the station controller keeps, with the station configuration (chapter 05). -/
structure StationUnit where
  mode : StationMode
  listenTimer : Option Nat
  leaveTimer : Option Nat
  cfg : StationConfig
  deriving DecidableEq, Repr

/-- A request that an entry has handed on: its action with its cause, the acting time, and what the
action sampled at that instant: a position for LATCH and COMPARE, an edge or its absence for MEASURE (R32). -/
structure Request where
  action : Action
  cause : Cause
  actingTime : LineTime
  sample : Value32
  edge : Option Edge
  deriving DecidableEq, Repr

/-- What the dispatcher keeps (chapters 01 and 02). It is SCANNING exactly while `current` is present.
`scanPos` is the index of the entry being examined, and 64 once position 63 has been examined. `underWay` is
the request handed on and not yet taken (R18, R61, log 30). -/
structure DispatchUnit where
  queue : List Occurrence
  current : Option Occurrence
  scanPos : Nat
  underWay : Option Request
  bindings : Vector BindingRow 32
  subs : Vector SubEntry 64
  deriving DecidableEq, Repr

/-- What the action schedule keeps (chapter 03), head first. -/
structure ScheduleUnit where
  entries : List SchedEntry
  counter : BitVec 32
  deriving DecidableEq, Repr

/-- What the position unit keeps (chapter 09). `edat` is the level of the pin EDAT. -/
structure PositionUnit where
  cfg : PosConfig
  cntA : Value32
  cntB : Value32
  offset : Value32
  pair0 : Level
  pair1 : Level
  quadErrors : Byte
  reader : ReaderState
  record : Option ReadRecord
  edat : Level
  shiftWord : List Level
  shiftLeft : Option Nat
  recovery : Option Nat
  absPos : Value32
  absStamp : Option LineTime
  deriving DecidableEq, Repr

/-- What the compare and measure unit keeps (chapter 10). -/
structure MeasureUnit where
  cmpCfg : Vector CmpConfig 2
  cmpRun : Vector CmpRuntime 2
  latches : Vector LatchSlot 8
  slots : Vector MeasSlot 8
  deriving DecidableEq, Repr

/-- What the host port keeps (chapter 11). -/
structure HostUnit where
  snapshot : LineTime
  params : Vector Byte 8
  tableSelect : Byte
  tableIndex : Byte
  staging : Vector Byte 48
  errorCode : ConfigError
  status : CmdStatus
  reports : List Report
  capture : Vector Byte 8
  transaction : Option Transaction
  captureLive : Bool
  sdo : Option Byte
  deriving DecidableEq, Repr

/-- The whole part. `choices` is the MODEL's own field: the number of the next free choice (log 3).
`pending` holds the commands that wait, first in first out. -/
structure State where
  line : LineEngine
  time : TimeUnit
  station : StationUnit
  disp : DispatchUnit
  sched : ScheduleUnit
  chans : Vector Channel 8
  pos : PositionUnit
  meas : MeasureUnit
  host : HostUnit
  resetHeld : Bool
  choices : Nat
  pending : List Instr
  deriving DecidableEq, Repr

/-- The reasons a step can fault. There is none: the manual gives every step an effect, a refusal
recorded in the command status, or no effect (log 28). Raised by nobody, so neither safe nor unsafe. -/
inductive Fault where
  deriving DecidableEq, Repr

/-- The reasons a step can be refused. -/
inductive Refusal where
  /-- A command without a meaning, raised by an arm of `exec`: safe. No arm raises it (log 28). -/
  | notModelled (mnemonic : String)
  deriving DecidableEq, Repr

/-! ### Reset values -/

/-- The line engine after hardware reset (R107, R110, R113, R119, R121, R133, R182). -/
def LineEngine.reset : LineEngine :=
  { rx := .off, rxFrame := none, recessiveRun := 0, dominantRun := 0, stuck := false, stuckTime := 0,
    stuckFor := 0, attempt := .waitGap, attemptBytes := [], txq := [], rxErrors := 0, txl := true,
    txClock := none, awaitGap := false }

/-- The line time unit after hardware reset (R67, R69, R72, R75, R79, R80, R82, R83, R86). -/
def TimeUnit.reset : TimeUnit :=
  { lineTime := 0, slew := 0, peers := [], syncTimer := none, lastMedian := 0, lastInStep := true,
    outCount := 0, inCount := 0, alone := false, syncCount := 0, prevEdge := none,
    peerFullReported := false }

/-- The station configuration after hardware reset (R71, R108, R196). -/
def StationConfig.reset : StationConfig :=
  { station := 0, syncBase := 0, syncMult := 10, limitL := 2000, limitS := 500, lineRate := 0,
    lineDelay := 0 }

/-- The station controller after hardware reset (R91). -/
def StationUnit.reset : StationUnit :=
  { mode := .config, listenTimer := none, leaveTimer := none, cfg := .reset }

/-- A binding row after hardware reset (R5). -/
def BindingRow.reset : BindingRow :=
  { event := 0, scope := .here, priority := 1, payloadFlag := false }

/-- The empty subscription entry (R22). -/
def SubEntry.empty : SubEntry :=
  { event := 0, filter := .any, policy := .every, action := .capture, armed := true }

/-- The dispatcher after hardware reset (R5, R14, R22). -/
def DispatchUnit.reset : DispatchUnit :=
  { queue := [], current := none, scanPos := 0, underWay := none, bindings := Vector.replicate 32 .reset,
    subs := Vector.replicate 64 .empty }

/-- The schedule after hardware reset (R45, R62). -/
def ScheduleUnit.reset : ScheduleUnit := { entries := [], counter := 0 }

/-- The channel configuration after hardware reset (R137). -/
def ChanConfig.reset : ChanConfig :=
  { direction := .input, filterMicros := 0, rest := false, checkDelay := 20, holdOffMillis := 100,
    autoRestore := false }

/-- A channel after hardware reset whose pin holds `level` (R137, R139, R141, R142, R144, R150). -/
def Channel.reset (level : Level) : Channel :=
  { cfg := .reset, out := none, lastCmd := false, sensed := level, filtered := level, cand := none,
    fifo := [], rises := 0, falls := 0, mismatch := none, holdOff := none }

/-- The encoder fields after hardware reset (R153). -/
def EncConfig.reset : EncConfig :=
  { totalBits := 13, validBits := 13, coding := .binary, clock := .khz500, recoveryMicros := 30,
    check := .none }

/-- The position configuration after hardware reset (R153). -/
def PosConfig.reset : PosConfig :=
  { mode := .off, signA := .plus, signB := .minus, enc := .reset }

/-- The position unit after hardware reset, IO0, IO1 and EDAT holding the given levels (R153, R155,
R160). -/
def PositionUnit.reset (level0 level1 edat : Level) : PositionUnit :=
  { cfg := .reset, cntA := 0, cntB := 0, offset := 0, pair0 := level0, pair1 := level1,
    quadErrors := 0, reader := .idle, record := none, edat := edat, shiftWord := [],
    shiftLeft := none, recovery := none, absPos := 0, absStamp := none }

/-- A comparator's configuration after hardware reset (R169). -/
def CmpConfig.reset : CmpConfig :=
  { source := .incremental, origin := 0, margin := 0, maskBits := 32, strict := false, mode := .off,
    trueSlot := none, falseSlot := none }

/-- A comparator's runtime state when cleared (R170). -/
def CmpRuntime.cleared : CmpRuntime := { last := none, spent := false }

/-- A latch slot after hardware reset (R175). -/
def LatchSlot.reset : LatchSlot :=
  { value := 0, stamp := none, source := .incremental, isNew := false, overrun := false }

/-- A measurement slot after hardware reset (R178). -/
def MeasSlot.reset : MeasSlot :=
  { value := 0, valid := false, saturated := false, occStamp := none, edge := none,
    restamped := false }

/-- The compare and measure unit after hardware reset (R169, R170, R175, R178). -/
def MeasureUnit.reset : MeasureUnit :=
  { cmpCfg := Vector.replicate 2 .reset, cmpRun := Vector.replicate 2 .cleared,
    latches := Vector.replicate 8 .reset, slots := Vector.replicate 8 .reset }

/-- The host port after hardware reset (R70, R183, R184, R186, R188, R189, R190). -/
def HostUnit.reset : HostUnit :=
  { snapshot := 0, params := Vector.replicate 8 0, tableSelect := 0, tableIndex := 0,
    staging := Vector.replicate 48 0, errorCode := .none,
    status := { source := 0, outcome := .none, detail := 0 }, reports := [],
    capture := Vector.replicate 8 0, transaction := none, captureLive := false, sdo := none }

/-- The part right after the release of RESETN (R106), every pin held low by the field (log 1). -/
def State.reset : State :=
  { line := .reset, time := .reset, station := .reset, disp := .reset, sched := .reset,
    chans := Vector.replicate 8 (Channel.reset false), pos := PositionUnit.reset false false false,
    meas := .reset, host := .reset, resetHeld := false, choices := 0, pending := [] }

end Sys2Proof.Machine
end

