-- ==== Sys2Proof/Machine/Flags.lean ====
section
/-! DEFINITION. What the rest of the model asks of the state as yes or no, and the values that stand
for names in registers and reports (station state, outcomes, codes). -/

namespace Sys2Proof.Machine

/-! ### Codes -/

/-- The station state register (R182). -/
def StationMode.code : StationMode → Byte
  | .config => 0
  | .listen => 1
  | .active => 2
  | .drifted => 3
  | .leaving => 4

/-- The receiver state in the line status (R182). -/
def RxState.code : RxState → BitVec 2
  | .off => 0
  | .seeking => 1
  | .free => 2
  | .receiving => 3

/-- The attempt state in the line status (R182). -/
def AttemptState.code : AttemptState → BitVec 2
  | .waitGap => 0
  | .arbitrating => 1
  | .sending => 2

/-- The outcome byte of the command status (R184). -/
def CmdOutcome.code : CmdOutcome → Byte
  | .none => 0
  | .taken => 1
  | .refused => 2
  | .badParameter => 3
  | .checkFailed => 4
  | .accessRefused => 5

/-- The configuration error code (R188). -/
def ConfigError.code : ConfigError → Byte
  | .none => 0
  | .bindEvent => 1
  | .bindPriority => 2
  | .bindPayload => 3
  | .subEvent => 4
  | .subFilter => 5
  | .subPolicy => 6
  | .subKind => 7
  | .subRange => 8
  | .driveNothing => 9
  | .driveWidth => 10
  | .driveOuter => 11
  | .subEndEvent => 12
  | .cmpRange => 13
  | .chanRange => 14
  | .posRange => 15
  | .tableIndex => 16
  | .joinStation => 17
  | .joinSync => 18
  | .joinLimits => 19
  | .joinRate => 20
  | .joinPosition => 21

/-- The reader state in the position view and in CAPTURE_OVERRUN (R195, R196). -/
def ReaderState.code : ReaderState → Byte
  | .idle => 0
  | .shifting => 1
  | .recovery => 2

/-- The output state in the channel status view: INPUT for direction IN (R196). -/
def outStateCode : Option OutState → Byte
  | some .enabled => 0
  | some .heldOff => 1
  | some .disabled => 2
  | none => 3

/-! ### What is open (R93) -/

/-- ACTIVE or DRIFTED: bindings, dispatch queue, schedule and transmit queue take what reaches them
(R93). -/
def State.isOpen (s : State) : Bool :=
  s.station.mode == .active || s.station.mode == .drifted

/-- The transmitter is on in ACTIVE, DRIFTED and LEAVING (R93, R117). -/
def State.txOn (s : State) : Bool :=
  s.isOpen || s.station.mode == .leaving

/-- The configuration and the tables are writable in CONFIG alone (R93). -/
def State.inConfig (s : State) : Bool := s.station.mode == .config

/-- Peer notices reach the peer time table: SYNC in LISTEN, ACTIVE and DRIFTED (R134). -/
def State.takesSync (s : State) : Bool := s.isOpen || s.station.mode == .listen

/-- The receiver is on from JOIN until the station is again in CONFIG (R93). -/
def State.rxOn (s : State) : Bool := s.line.rx != .off

/-! ### Notices and occurrences -/

/-- The notice is the station's own SYNC. -/
def Notice.isSync (n : Notice) : Bool :=
  match n.body with
  | .sync => true
  | .event _ => false
  | .leave _ => false

/-- The notice is an EVENT notice. -/
def Notice.isEvent (n : Notice) : Bool :=
  match n.body with
  | .sync => false
  | .event _ => true
  | .leave _ => false

/-- The notice is the LEAVE notice. -/
def Notice.isLeave (n : Notice) : Bool :=
  match n.body with
  | .sync => false
  | .event _ => false
  | .leave _ => true

/-- The filter admits the origin (R27). -/
def OriginFilter.admits : OriginFilter → Origin → Bool
  | .any, _ => true
  | .inside, .row _ => true
  | .inside, .hostPort => true
  | .inside, .entry _ => true
  | .inside, .station _ => false
  | .line, .station _ => true
  | .line, .row _ => false
  | .line, .hostPort => false
  | .line, .entry _ => false
  | .station j, .station n => n == j
  | .station _, .row _ => false
  | .station _, .hostPort => false
  | .station _, .entry _ => false

/-- A match: armed, the event number, the filter (R15). An empty entry matches nothing (R22). -/
def SubEntry.matchesOcc (e : SubEntry) (o : Occurrence) : Bool :=
  e.armed && e.event != 0 && e.event == o.event && e.filter.admits o.origin

/-! ### Pins (R107, R144, R151, R191) -/

/-- The part drives the channel's pin: direction OUT and ENABLED (R144). -/
def Channel.driven (c : Channel) : Bool := c.out == some .enabled

/-- INTN is low while the report queue holds a record, and released while RESETN is asserted (R191). -/
def State.intnAsserted (s : State) : Bool := !s.resetHeld && !s.host.reports.isEmpty

end Sys2Proof.Machine
end

