-- ==== Sys2Proof/Machine/Operands.lean ====
section
/-! DEFINITION. Operands: fields of records and registers as bytes, in the byte orders of R182, R193
and R196, and the parameter bytes of the host commands (R185). -/

namespace Sys2Proof.Machine

/-! ### Bytes -/

/-- A flag as a bit. -/
def flagBit (b : Bool) : BitVec 1 := if b then 1#1 else 0#1

/-- Flags as a byte, the first at bit 0. -/
def packBits : List Bool → Byte
  | [] => 0
  | b :: l => (packBits l <<< 1) ||| (if b then 1 else 0)

/-- The first `n` bytes of a value, least significant first (R182, R196). -/
def leBytes {w : Nat} (n : Nat) (x : BitVec w) : List Byte :=
  (List.range n).map fun i => x.extractLsb' (8 * i) 8

/-- The first `n` bytes of a value, most significant first (R193). -/
def beBytes {w : Nat} (n : Nat) (x : BitVec w) : List Byte := (leBytes n x).reverse

/-- The number that bytes spell, most significant first (R193). -/
def beValue (l : List Byte) : Nat := l.foldl (fun a b => a * 256 + b.toNat) 0

/-- A byte of the staging area (R186). -/
def stByte (v : Vector Byte 48) (i : Nat) : Byte := v[i]?.getD 0

/-- Two bytes of the staging area, the lower offset least significant (R196). -/
def stWord16 (v : Vector Byte 48) (i : Nat) : BitVec 16 := stByte v (i + 1) ++ stByte v i

/-- Four bytes of the staging area (R196). -/
def stWord32 (v : Vector Byte 48) (i : Nat) : BitVec 32 := stWord16 v (i + 2) ++ stWord16 v i

/-- A record's bytes as the 48 bytes of the staging area: bytes the layout does not name read 0
(R196). -/
def stagingOf (l : List Byte) : Vector Byte 48 :=
  ⟨⟨(l ++ List.replicate 48 0).take 48⟩, by simp⟩

/-- An index below a bound. -/
def ixOf (n i : Nat) : Option (Fin n) := if h : i < n then some ⟨i, h⟩ else none

/-! ### Event descriptors (R196) -/

/-- Three bytes: present, scope and priority; then the event number. Absent reads 0. -/
def descBytes : Option EventDesc → List Byte
  | none => [0, 0, 0]
  | some d =>
    ((0#1 ++ d.priority ++ 0#2 ++ flagBit (d.scope == .line) ++ 1#1 : BitVec 8)) ::
      leBytes 2 (d.event.setWidth 16)

/-- The scope of a flag bit: 0 LOCAL, 1 LINE (R185, R196). -/
def scopeOf (b : Bool) : Scope := if b then .line else .here

/-- The descriptor staged at an offset: absent, or with the event number still as staged. -/
def stDesc (v : Vector Byte 48) (i : Nat) : Option (BitVec 16 × Scope × Priority) :=
  if (stByte v i).getLsbD 0 then
    some (stWord16 v (i + 1), scopeOf ((stByte v i).getLsbD 1), (stByte v i).extractLsb' 4 3)
  else none

/-! ### Command parameters (R185) -/

/-- A command parameter byte. -/
def paramByte (s : State) (i : Fin 8) : Byte := s.host.params[i.val]

/-- INJECT's event number as written. -/
def injectEvent (s : State) : BitVec 16 := paramByte s 1 ++ paramByte s 0

/-- INJECT's scope. -/
def injectScope (s : State) : Scope := scopeOf ((paramByte s 2).getLsbD 0)

/-- INJECT's priority. -/
def injectPriority (s : State) : Priority := (paramByte s 2).extractLsb' 4 3

/-- INJECT's payload. -/
def injectPayload (s : State) : Option Value32 :=
  if (paramByte s 3).getLsbD 0 then
    some (paramByte s 7 ++ paramByte s 6 ++ paramByte s 5 ++ paramByte s 4)
  else none

end Sys2Proof.Machine
end

