-- ==== Sys2Proof/Machine/Ops.lean ====
section
/-! DEFINITION. The operations several blocks share: line time comparison, block updates, the report
queue, and the ways an occurrence goes to the dispatch queue or the transmit queue. -/

namespace Sys2Proof.Machine

/-! ### Line times (00_scope "Time", R67) -/

/-- `t − u` modulo 2^48, read as signed. -/
def timeDiff (t u : LineTime) : Int := (t - u).toInt

/-- `t` is later than `u`. -/
def isLater (t u : LineTime) : Bool := decide (0 < timeDiff t u)

/-- A signed number saturated to the signed 32-bit range (R83, R179). -/
def sat32 (x : Int) : Value32 :=
  if x < -(2 ^ 31) then BitVec.ofInt 32 (-(2 ^ 31))
  else if 2 ^ 31 - 1 < x then BitVec.ofInt 32 (2 ^ 31 - 1)
  else BitVec.ofInt 32 x

/-- A number of ticks saturated at 2^32 − 1 (R48, R119). -/
def satTicks (n : Nat) : BitVec 32 :=
  if 2 ^ 32 ≤ n then BitVec.allOnes 32 else BitVec.ofNat 32 n

/-! ### Tables -/

/-- One place of a table changed. -/
def updVec {α : Type} {n : Nat} (v : Vector α n) (i : Fin n) (f : α → α) : Vector α n :=
  v.set i.val (f v[i.val]) i.isLt

/-- Every place of a table changed. -/
def mapVec {α : Type} {n : Nat} (v : Vector α n) (f : Nat → α → α) : Vector α n :=
  ⟨⟨v.toList.mapIdx f⟩, by simp⟩

/-! ### Block updates -/

/-- The state with another line engine. -/
def State.setLine (s : State) (b : LineEngine) : State := { s with line := b }
/-- The state with another line time unit. -/
def State.setTime (s : State) (b : TimeUnit) : State := { s with time := b }
/-- The state with another station controller. -/
def State.setStation (s : State) (b : StationUnit) : State := { s with station := b }
/-- The state with another dispatcher. -/
def State.setDisp (s : State) (b : DispatchUnit) : State := { s with disp := b }
/-- The state with another schedule. -/
def State.setSched (s : State) (b : ScheduleUnit) : State := { s with sched := b }
/-- The state with other channels. -/
def State.setChans (s : State) (b : Vector Channel 8) : State := { s with chans := b }
/-- The state with another position unit. -/
def State.setPos (s : State) (b : PositionUnit) : State := { s with pos := b }
/-- The state with another compare and measure unit. -/
def State.setMeas (s : State) (b : MeasureUnit) : State := { s with meas := b }
/-- The state with another host port. -/
def State.setHost (s : State) (b : HostUnit) : State := { s with host := b }
/-- The state with `n` more free choices used (log 3). -/
def State.useChoices (s : State) (n : Nat) : State := { s with choices := s.choices + n }
/-- The state with another queue of commands. -/
def State.setPending (s : State) (q : List Instr) : State := { s with pending := q }

/-- One channel changed. -/
def State.setChan (s : State) (c : Fin 8) (f : Channel → Channel) : State :=
  s.setChans (updVec s.chans c f)

/-! ### Free choices (log 3) -/

/-- `x` put into a list at a place. -/
def insertAt {α : Type} : List α → Nat → α → List α
  | [], _, x => [x]
  | y :: l, 0, x => x :: y :: l
  | y :: l, n + 1, x => y :: insertAt l n x

/-- A list in an order that the `k`-th and following free choices pick: any order of it. -/
def freeOrder {α : Type} (k : Nat) : List α → List α
  | [] => []
  | x :: l => insertAt (freeOrder (k + 1) l) (Config.freeChoice k % (l.length + 1)) x

/-! ### The report queue (R189) -/

/-- The value of a report's kind (R192). -/
def ReportBody.code : ReportBody → Byte
  | .eventLost _ _ => 1
  | .dispatchOverflow _ _ => 2
  | .chainLimit _ _ => 3
  | .scheduleFull _ _ => 4
  | .actionLate _ _ => 5
  | .cancelled _ _ _ _ _ => 6
  | .scheduleFlushed _ => 7
  | .captureOverrun _ _ => 8
  | .encoderFault _ _ => 9
  | .outputFault _ _ => 10
  | .outputRestored _ _ => 11
  | .syncState _ _ => 12
  | .stateChange _ _ => 13
  | .peerJoined _ _ => 14
  | .peerLost _ _ => 15
  | .peerTableFull _ => 16
  | .stationClash _ => 17
  | .rxErrors _ => 18
  | .lineStuck => 19
  | .lineFree _ => 20
  | .queueOverflow _ _ _ => 21

/-- The count of an open overflow record after one more report (R189). -/
def moreLost (count : Nat) : Nat := min (count + 1) 255

/-- The record with one more report counted in it, when it is an open overflow record. -/
def Report.countOne? (r : Report) : Option Report :=
  match r.body with
  | .queueOverflow n k true => some { r with body := .queueOverflow (moreLost n) k true }
  | _ => none

/-- A report reaches the queue (R189): it is counted in an open overflow record at the tail, joins
below 32 records, and is replaced by a new overflow record where it would be the 32nd. A full queue
always ends in an open overflow record, so the last case is never met (log 19). -/
def pushReport (q : List Report) (r : Report) : List Report :=
  match q.getLast?.bind Report.countOne? with
  | some r' => q.dropLast ++ [r']
  | none =>
    if q.length + 1 < Config.reportCapacity then q ++ [r]
    else if q.length + 1 = Config.reportCapacity then
      q ++ [{ body := .queueOverflow 1 r.body.code true, time := r.time }]
    else q

/-- A report made at a given line time. -/
def State.reportAt (s : State) (t : LineTime) (b : ReportBody) : State :=
  s.setHost { s.host with reports := pushReport s.host.reports { body := b, time := t } }

/-- A report made now: it carries the line time at which it is made (R192). -/
def State.report (s : State) (b : ReportBody) : State := s.reportAt s.time.lineTime b

/-- Several reports made one after the other. -/
def State.reportAll (s : State) (l : List ReportBody) : State := l.foldl State.report s

/-! ### The dispatch queue (R12, R13) -/

/-- An occurrence arrives at the tail of the dispatch queue, or overflows it. -/
def State.arrive (s : State) (o : Occurrence) : State :=
  if !s.isOpen then s
  else if s.disp.queue.length < Config.dispatchCapacity then
    s.setDisp { s.disp with queue := s.disp.queue ++ [o] }
  else s.report (.dispatchOverflow o.event o.origin)

/-! ### The transmit queue (R121, R122) -/

/-- A notice takes its place: behind every notice of its priority or a lower number. -/
def placeNotice (n : Notice) : List Notice → List Notice
  | [] => [n]
  | m :: q => if n.priority.toNat < m.priority.toNat then n :: m :: q else m :: placeNotice n q

/-- How many of the shared places are held. -/
def sharedCount (q : List Notice) : Nat := q.countP fun n => !n.isSync

/-- A notice joins the transmit queue. -/
def State.joinTx (s : State) (n : Notice) : State :=
  s.setLine { s.line with txq := placeNotice n s.line.txq }

/-- An occurrence of scope LINE is handed to the line engine (R122). -/
def State.handOver (s : State) (p : Priority) (o : Occurrence) : State :=
  if !s.isOpen then s
  else if sharedCount s.line.txq < Config.sharedPlaces then
    s.joinTx { body := .event o, priority := p, errored := 0, inTx := false }
  else s.report (.eventLost o.event .queueFull)

/-- An occurrence goes where its scope sends it (R8, R9). -/
def State.raise (s : State) (scope : Scope) (p : Priority) (o : Occurrence) : State :=
  match scope with
  | .here => s.arrive o
  | .line => s.handOver p o

/-! ### Sources (R7, R19, R20) -/

/-- The row is bound. -/
def BindingRow.bound (b : BindingRow) : Bool := b.event != 0

/-- The payload a row gives its occurrence (R5). -/
def BindingRow.payloadOf (b : BindingRow) (v : Option Value32) : Option Value32 :=
  if b.payloadFlag then v else none

/-- A source of generation 0 fires its row (R3, R7). `v` is the value its payload would carry. -/
def State.fireRow (s : State) (r : Fin 32) (stamp : LineTime) (v : Option Value32) : State :=
  let b := s.disp.bindings[r.val]
  if b.bound && s.isOpen then
    s.raise b.scope (b.priority.setWidth 3)
      { event := b.event, stamp := stamp, origin := .row r, gen := 0, payload := b.payloadOf v,
        restamped := false }
  else s

/-- A derived occurrence, with generation one greater than its cause's; at generation 3 CHAIN_LIMIT
in its place (R19, R20). `o.gen` is not read. -/
def State.derive (s : State) (causeGen : Generation) (causeEntry : Fin 64) (d : EventDesc)
    (o : Occurrence) : State :=
  if !s.isOpen then s
  else if causeGen = 3 then s.report (.chainLimit d.event causeEntry)
  else s.raise d.scope d.priority { o with event := d.event, gen := causeGen + 1 }

/-- A derived source fires its row (R19). -/
def State.fireDerived (s : State) (r : Fin 32) (c : Cause) (stamp : LineTime) (v : Option Value32)
    (restamped : Bool) : State :=
  let b := s.disp.bindings[r.val]
  if b.bound then
    s.derive c.gen c.entry { event := b.event, scope := b.scope, priority := b.priority.setWidth 3 }
      { event := b.event, stamp := stamp, origin := .row r, gen := 0, payload := b.payloadOf v,
        restamped := restamped }
  else s

/-! ### How a meaning answers -/

/-- The three outcomes of a step of this machine. -/
abbrev Result := Host.Outcome State Fault Refusal

/-- A command whose cause is there acts; one whose cause is not there changes nothing (log 4). While
RESETN is asserted every block is held at its reset value and nothing acts (R106). -/
def actIf (due : Bool) (s : State) (f : State → State) : Result :=
  .next (if due && !s.resetHeld then f s else s)

/-- A command that acts whatever the state, RESETN being released. -/
def act (s : State) (f : State → State) : Result := actIf true s f

end Sys2Proof.Machine
end

