-- ==== Sys2Proof/Machine/Output.lean ====
section
/-! DEFINITION. The output side of the channels (chapter 08, section 8.3): the output word, the
readback check, hold-off and restore. -/

namespace Sys2Proof.Machine

/-- The mismatch timer's length in local ticks (R137, R146). -/
def ChanConfig.checkTicks (g : ChanConfig) : Nat := g.checkDelay.toNat * Config.ticksPerMicro

/-- The hold-off timer's length in local ticks (R137, R147). -/
def ChanConfig.holdOffTicks (g : ChanConfig) : Nat := g.holdOffMillis.toNat * Config.ticksPerMilli

/-- The readback check after the sensed or the driven level may have changed (R146): on an ENABLED
channel the mismatch timer starts where the levels come to differ, runs on while they differ, and is
stopped where they agree. -/
def Channel.recheck (c : Channel) : Channel :=
  if c.driven then
    if c.sensed = c.lastCmd then { c with mismatch := none }
    else { c with mismatch := some (c.mismatch.getD c.cfg.checkTicks) }
  else c

/-- The channel enters ENABLED: driven at its last commanded level, the check beginning with the
timer stopped (R146, R148, R149). -/
def Channel.enable (c : Channel) : Channel :=
  ({ c with out := some .enabled, mismatch := none, holdOff := none } : Channel).recheck

/-- The channel takes a level from an update of the output word (R144). -/
def Channel.takeLevel (c : Channel) (l : Level) : Channel :=
  ({ c with lastCmd := l } : Channel).recheck

/-- One update of the output word: the masked channels take their levels together (R144). -/
def State.updateOutputs (s : State) (mask levels : Byte) : State :=
  s.setChans (mapVec s.chans fun i c => if mask.getLsbD i then c.takeLevel (levels.getLsbD i) else c)

/-- Some masked channel is not driven by the part: the answer to a schedule update (R49, R144). -/
def State.anyUndriven (s : State) (mask : Byte) : Bool :=
  (s.chans.toList.mapIdx fun i c => mask.getLsbD i && !c.driven).any id

/-- The channel's rest level, taken by a channel of direction OUT (R145). -/
def Channel.toRest (c : Channel) : Channel :=
  if c.cfg.direction = .output then c.takeLevel c.cfg.rest else c

/-- The rest-level update of a flush: every channel of direction OUT, each at its rest level (R145). -/
def State.restOutputs (s : State) : State :=
  s.setChans (mapVec s.chans fun _ c => c.toRest)

/-- An accepted STORE of a channel's configuration (R138). -/
def Channel.configure (c : Channel) (g : ChanConfig) : Channel :=
  match c.cfg.direction, g.direction with
  | .input, .input => { c with cfg := g }
  | .input, .output => ({ c with cfg := g, lastCmd := g.rest } : Channel).enable
  | .output, .input => { c with cfg := g, out := none, mismatch := none, holdOff := none }
  | .output, .output => ({ c with cfg := g } : Channel).toRest

/-- The mismatch timer of an ENABLED channel has run out (R146). -/
def Channel.faultDue (c : Channel) : Bool := c.driven && c.mismatch == some 0

/-- The channel goes to HELD_OFF (R147). -/
def Channel.holdOffNow (c : Channel) : Channel :=
  { c with out := some .heldOff, mismatch := none, holdOff := some c.cfg.holdOffTicks }

/-- A readback fault: HELD_OFF, its report, and the OUT_FAULT row (R147). -/
def State.readbackFault (s : State) (c : Fin 8) : State :=
  ((s.setChan c Channel.holdOffNow).report (.outputFault c s.chans[c.val].lastCmd)).fireRow
    ⟨16 + c.val, by omega⟩ s.time.lineTime none

/-- READBACK_FAULT (R147). -/
def execReadbackFault (channel : Nat) (s : State) : Result :=
  match ixOf 8 channel with
  | some c => actIf s.chans[c.val].faultDue s fun s => s.readbackFault c
  | none => .next s

/-- The hold-off timer of a HELD_OFF channel has run out (R148). -/
def Channel.restoreDue (c : Channel) : Bool := c.out == some .heldOff && c.holdOff == some 0

/-- The hold-off expiry (R148). -/
def State.holdOffExpiry (s : State) (c : Fin 8) : State :=
  if s.chans[c.val].cfg.autoRestore then
    (s.setChan c Channel.enable).report (.outputRestored c .auto)
  else s.setChan c fun ch => { ch with out := some .disabled, holdOff := none }

/-- HOLD_OFF_EXPIRY (R148). -/
def execHoldOffExpiry (channel : Nat) (s : State) : Result :=
  match ixOf 8 channel with
  | some c => actIf s.chans[c.val].restoreDue s fun s => s.holdOffExpiry c
  | none => .next s

end Sys2Proof.Machine
end

