-- ==== Sys2Proof/Machine/Position.lean ====
section
/-! DEFINITION. The position unit and the serial encoder reader (chapter 09). -/

namespace Sys2Proof.Machine

/-! ### The incremental position (R158, R159) -/

/-- A sign applied to a counter, modulo 2^32. -/
def Sign.times : Sign → Value32 → Value32
  | .minus, x => -x
  | .zero, _ => 0
  | .plus, x => x

/-- The incremental position as the 32-bit value it is held in (R158). -/
def PositionUnit.incremental (p : PositionUnit) : Value32 :=
  p.cfg.signA.times p.cntA + p.cfg.signB.times p.cntB + p.offset

/-- A PRESET request (R159). -/
def PositionUnit.preset (p : PositionUnit) (v : Value32) : PositionUnit :=
  { p with offset := v - p.cfg.signA.times p.cntA - p.cfg.signB.times p.cntB }

/-- The position of a source (R36, R171). -/
def PositionUnit.read (p : PositionUnit) : PosSource → Value32
  | .incremental => p.incremental
  | .absolute => p.absPos

/-- A PRESET reaches the position unit, in every station state and position mode (R159). -/
def State.presetPos (s : State) (v : Value32) : State := s.setPos (s.pos.preset v)

/-! ### Counting (R155 to R157) -/

/-- The edges of IO0 and IO1 handed over together: one edge, or a pair counted at one instant (R143). -/
structure HandOver where
  io0 : Option Edge
  io1 : Option Edge
  new0 : Level
  new1 : Level
  deriving DecidableEq, Repr

/-- The edge is a RISE. -/
def isRise (e : Option Edge) : Bool :=
  match e with
  | some ⟨.rise, _⟩ => true
  | some ⟨.fall, _⟩ => false
  | none => false

/-- One step along the forward cycle of the quadrature phases (R157). -/
def forwardOf : Level × Level → Level × Level
  | (false, false) => (true, false)
  | (true, false) => (true, true)
  | (true, true) => (false, true)
  | (false, true) => (false, false)

/-- Both channels changed in one hand-over in QUADRATURE (R157). -/
def PositionUnit.illegal (p : PositionUnit) (h : HandOver) : Bool :=
  p.cfg.mode == .quadrature && p.pair0 != h.new0 && p.pair1 != h.new1

/-- What a hand-over adds to counter A (R156, R157). -/
def PositionUnit.upA (p : PositionUnit) (h : HandOver) : Bool :=
  match p.cfg.mode with
  | .off => false
  | .edge => isRise h.io0
  | .updown => isRise h.io0 && !p.pair1
  | .quadrature => forwardOf (p.pair0, p.pair1) == (h.new0, h.new1)

/-- What a hand-over adds to counter B (R156, R157). -/
def PositionUnit.upB (p : PositionUnit) (h : HandOver) : Bool :=
  match p.cfg.mode with
  | .off => false
  | .edge => isRise h.io1
  | .updown => isRise h.io0 && p.pair1
  | .quadrature => forwardOf (h.new0, h.new1) == (p.pair0, p.pair1)

/-- A hand-over counted, and the level pair taking the new levels (R155 to R157). -/
def PositionUnit.counted (p : PositionUnit) (h : HandOver) : PositionUnit :=
  { p with
    cntA := if p.upA h then p.cntA + 1 else p.cntA
    cntB := if p.upB h then p.cntB + 1 else p.cntB
    quadErrors := if p.illegal h then p.quadErrors + 1 else p.quadErrors
    pair0 := h.new0
    pair1 := h.new1 }

/-- The line time of a hand-over: its edge's stamp, or the later of the two (R157). -/
def HandOver.stamp (h : HandOver) : LineTime :=
  match h.io0, h.io1 with
  | some a, some b => if isLater b.stamp a.stamp then b.stamp else a.stamp
  | some a, none => a.stamp
  | none, some b => b.stamp
  | none, none => 0

/-- A hand-over reaches the position unit; an illegal transition fires QUAD_ERROR, row 27 (R157). -/
def State.takeHandOver (s : State) (h : HandOver) : State :=
  let s' := s.setPos (s.pos.counted h)
  if s.pos.illegal h then s'.fireRow 27 h.stamp (some s.pos.incremental) else s'

/-! ### The serial encoder reader (R160 to R166) -/

/-- The encoder's clock period in local ticks (R162). -/
def EncClock.period : EncClock → Nat
  | .mhz1 => 100
  | .khz500 => 200
  | .khz250 => 400
  | .khz125 => 800

/-- How many samples a read takes: total bits, and the check sample (R162). -/
def EncConfig.samples (g : EncConfig) : Nat :=
  g.totalBits.toNat + (if g.check = .none then 0 else 1)

/-- How long SHIFTING lasts in local ticks (R162). -/
def EncConfig.shiftTicks (g : EncConfig) : Nat := g.samples * g.clock.period

/-- ECLK rises after `e` local ticks of a read: at the middle of a clock period (R162). -/
def EncConfig.rises (g : EncConfig) (e : Nat) : Bool := e % g.clock.period == g.clock.period / 2

/-- The recovery time in local ticks (R163). -/
def EncConfig.recoveryTicks (g : EncConfig) : Nat := g.recoveryMicros.toNat * Config.ticksPerMicro

/-- A CAPTURE request reaches the reader (R161). -/
def State.captureRequest (s : State) (c : Cause) : State :=
  if !s.isOpen then s
  else
    match s.pos.reader with
    | .idle =>
      s.setPos
        { s.pos with
          reader := .shifting
          record := some { enc := s.pos.cfg.enc, start := s.time.lineTime, cause := c }
          shiftWord := []
          shiftLeft := some s.pos.cfg.enc.shiftTicks }
    | .shifting => s.report (.captureOverrun .shifting c.entry)
    | .recovery => s.report (.captureOverrun .recovery c.entry)

/-- The number that bits spell, the first most significant. -/
def bitsValue (l : List Level) : Nat := l.foldl (fun a b => 2 * a + b.toNat) 0

/-- Gray decoding: each bit combined by exclusive-or with the binary bit just above it (R163). -/
def grayDecode : Level → List Level → List Level
  | _, [] => []
  | above, b :: l => (b ^^ above) :: grayDecode (b ^^ above) l

/-- The binary bits of a word (R163). -/
def EncConfig.binaryBits (g : EncConfig) (word : List Level) : List Level :=
  match g.coding with
  | .binary => word
  | .gray => grayDecode false word

/-- The `n` bits of the encoder's word, of all samples. -/
def EncConfig.word (g : EncConfig) (samples : List Level) : List Level :=
  samples.take g.totalBits.toNat

/-- The decoded position, keeping the valid bits (R163). -/
def EncConfig.position (g : EncConfig) (samples : List Level) : Value32 :=
  BitVec.ofNat 32 (bitsValue (g.binaryBits (g.word samples)) % 2 ^ g.validBits.toNat)

/-- The check passes (R163). -/
def EncConfig.passes (g : EncConfig) (samples : List Level) : Bool :=
  match g.check with
  | .none => true
  | .high => samples[g.totalBits.toNat]?.getD false
  | .low => !samples[g.totalBits.toNat]?.getD true

/-- The reader enters RECOVERY with its shift word (R163). -/
def PositionUnit.toRecovery (p : PositionUnit) (g : EncConfig) (word : List Level) : PositionUnit :=
  { p with
    reader := .recovery, shiftWord := word, shiftLeft := none, recovery := some g.recoveryTicks }

/-- The completion of SHIFTING (R163). -/
def State.readComplete (s : State) (r : ReadRecord) (samples : List Level) : State :=
  let p := s.pos.toRecovery r.enc samples
  if r.enc.passes samples then
    (s.setPos { p with absPos := r.enc.position samples, absStamp := some r.start }).fireDerived
      24 r.cause r.start (some (r.enc.position samples)) false
  else
    ((s.setPos p).report
        (.encoderFault (BitVec.ofNat 32 (bitsValue (r.enc.word samples))) r.cause.entry)).fireDerived
      26 r.cause r.start none false

/-- SHIFTING has lasted its clock periods (R162). -/
def State.readDue (s : State) : Bool :=
  s.pos.reader == .shifting && s.pos.shiftLeft == some 0 && s.pos.record.isSome

/-- The end of SHIFTING, with the shift word as sampled (R163). -/
def State.endShifting (s : State) : State :=
  match s.pos.record with
  | some r => s.readComplete r s.pos.shiftWord
  | none => s

/-- ENCODER_READ_COMPLETE (R163). A command that names another shift word names no completion (log 4). -/
def execEncoderReadComplete (samples : List Level) (s : State) : Result :=
  actIf (s.readDue && samples == s.pos.shiftWord) s State.endShifting

/-- The recovery timer has run out (R164). -/
def State.recoveryDue (s : State) : Bool := s.pos.reader == .recovery && s.pos.recovery == some 0

/-- The recovery expiry: IDLE, ENC_READY, and the read record dropped (R164). -/
def State.recoveryExpiry (s : State) : State :=
  let s' := s.setPos { s.pos with reader := .idle, recovery := none, record := none }
  match s.pos.record with
  | some r => s'.fireDerived 25 r.cause s.time.lineTime none false
  | none => s'

/-- RECOVERY_EXPIRY (R164). -/
def execRecoveryExpiry (s : State) : Result := actIf s.recoveryDue s State.recoveryExpiry

/-- The shift word after one local tick: EDAT is sampled where the tick brings a rise of ECLK (R162). -/
def PositionUnit.sampled (p : PositionUnit) : List Level :=
  match p.reader, p.record, p.shiftLeft with
  | .shifting, some r, some (left + 1) =>
    if r.enc.rises (r.enc.shiftTicks - left) then p.shiftWord ++ [p.edat] else p.shiftWord
  | _, _, _ => p.shiftWord

/-- RESTART at the reader: a read in SHIFTING is abandoned into RECOVERY (R165). -/
def PositionUnit.abandonRead (p : PositionUnit) : PositionUnit :=
  match p.reader, p.record with
  | .shifting, some r => p.toRecovery r.enc []
  | .shifting, none => p
  | .idle, _ => p
  | .recovery, _ => p

/-- The level of ECLK: not driven while RESETN is asserted (R106), held high at rest, and in SHIFTING
low in the first half of each clock period (R162). -/
def State.eclk (s : State) : Option Level :=
  if s.resetHeld then none
  else
    match s.pos.reader, s.pos.record, s.pos.shiftLeft with
    | .shifting, some r, some left =>
      let into := (r.enc.shiftTicks - left) % r.enc.clock.period
      some (left == 0 || decide (r.enc.clock.period / 2 ≤ into))
    | _, _, _ => some true

end Sys2Proof.Machine
end

