-- ==== Sys2Proof/Machine/Channel.lean ====
section
/-! DEFINITION. The input side of the channels (chapter 08, section 8.2): filter, stamp FIFO,
counters, and the counting of an edge. -/

namespace Sys2Proof.Machine

/-! ### The filter (R139) -/

/-- The filter timer's length in local ticks (R137, R139). -/
def ChanConfig.filterTicks (g : ChanConfig) : Nat := g.filterMicros.toNat * Config.ticksPerMicro

/-- The filter on a transition of the sensed level to `level` at line time `now`: a departure from
the filtered level starts a candidate and a return discards it (R139). -/
def Channel.filterTransition (c : Channel) (now : LineTime) (level : Level) : Channel :=
  if level = c.filtered then { c with sensed := level, cand := none }
  else
    { c with
      sensed := level
      cand := some { stamp := now, length := c.cfg.filterTicks, left := c.cfg.filterTicks } }

/-- The filter timer has run out on a candidate (R139). -/
def Channel.countDue (c : Channel) : Bool :=
  match c.cand with
  | some k => k.left == 0
  | none => false

/-- The candidate was started with a filter time of 0, so its timer expired at the transition itself
(R139). -/
def Channel.countsAtOnce (c : Channel) : Bool :=
  match c.cand with
  | some k => k.length == 0
  | none => false

/-! ### Counting an edge (R140 to R142) -/

/-- The edge a candidate's change makes: its kind by the new filtered level, its stamp the
candidate's (R139). -/
def Channel.edgeOf (c : Channel) (k : Candidate) : Edge :=
  { kind := if c.sensed then .rise else .fall, stamp := k.stamp }

/-- An edge pushed at index 0; one beyond index 15 is dropped (R141). -/
def pushEdge (l : List Edge) (e : Edge) : List Edge := (e :: l).take Config.fifoCapacity

/-- The change accepted: filtered level, stamp FIFO, counters (R140 steps 1 and 2). -/
def Channel.acceptChange (c : Channel) (e : Edge) : Channel :=
  { c with
    filtered := c.sensed
    cand := none
    fifo := pushEdge c.fifo e
    rises := if e.kind = .rise then c.rises + 1 else c.rises
    falls := if e.kind = .fall then c.falls + 1 else c.falls }

/-- The edge a due channel counts, or none. -/
def Channel.dueEdge (c : Channel) : Option Edge :=
  match c.cand with
  | some k => if k.left = 0 then some (c.edgeOf k) else none
  | none => none

/-- Steps 1 and 2 for one channel: nothing where no edge is given. -/
def State.acceptEdge (s : State) (c : Fin 8) (e : Option Edge) : State :=
  match e with
  | some e => s.setChan c fun ch => ch.acceptChange e
  | none => s

/-- The binding row of an input edge: row c for a RISE, row 8 + c for a FALL (R140 step 4). -/
def edgeRow (c : Fin 8) (k : EdgeKind) : Fin 32 :=
  match k with
  | .rise => ⟨c.val, by omega⟩
  | .fall => ⟨8 + c.val, by omega⟩

/-- Step 4: a channel of direction IN consults its row. -/
def State.fireEdge (s : State) (c : Fin 8) (e : Option Edge) : State :=
  match e with
  | some e =>
    if s.chans[c.val].cfg.direction = .input then s.fireRow (edgeRow c e.kind) e.stamp none else s
  | none => s

/-- The edge as the position unit takes it: of direction IN alone (R143). -/
def State.handable (s : State) (c : Fin 8) (e : Option Edge) : Option Edge :=
  if s.chans[c.val].cfg.direction = .input then e else none

/-- Step 3: the edges of IO0 and IO1 counted at this instant are handed over together, with the new
filtered levels of both channels (R143). -/
def State.handEdges (s : State) (e0 e1 : Option Edge) : State :=
  let h0 := s.handable 0 e0
  let h1 := s.handable 1 e1
  if h0.isSome || h1.isSome then
    s.takeHandOver
      { io0 := h0, io1 := h1, new0 := s.chans[0].filtered, new1 := s.chans[1].filtered }
  else s

/-- The counting of IO0 and IO1: both where both are due at this instant (R143), the row of the named
channel consulted first (log 15). -/
def State.countPair (s : State) (oneFirst : Bool) : State :=
  let e0 := s.chans[0].dueEdge
  let e1 := s.chans[1].dueEdge
  let s' := (((s.acceptEdge 0 e0).acceptEdge 1 e1).handEdges e0 e1)
  if oneFirst then (s'.fireEdge 1 e1).fireEdge 0 e0 else (s'.fireEdge 0 e0).fireEdge 1 e1

/-- The due change of a channel is counted (R140). -/
def State.countEdge (s : State) (c : Fin 8) : State :=
  if c.val = 0 then s.countPair false
  else if c.val = 1 then s.countPair true
  else
    let e := s.chans[c.val].dueEdge
    (s.acceptEdge c e).fireEdge c e

/-- EDGE_COUNTED (R140). -/
def execEdgeCounted (channel : Nat) (s : State) : Result :=
  match ixOf 8 channel with
  | some c => actIf s.chans[c.val].countDue s fun s => s.countEdge c
  | none => .next s

/-! ### Transitions of the pin (R139, R146) -/

/-- A change started with a filter time of 0 has been counted before the next transition is read:
"every transition of the sensed level is counted" (R139, log 14). -/
def State.countedBefore (s : State) (c : Fin 8) : State :=
  if s.chans[c.val].countsAtOnce then s.countEdge c else s

/-- The sensed level of a channel changes: filter and readback check (R139, R146). -/
def State.pinTransition (s : State) (c : Fin 8) (level : Level) : State :=
  let s' := s.countedBefore c
  s'.setChan c fun ch => (ch.filterTransition s'.time.lineTime level).recheck

/-- The level of EDAT, which the encoder reader samples (R162); pin 8 names it (log 13). -/
def State.edatLevel (s : State) (pin : Nat) (level : Level) : State :=
  if pin = 8 then s.setPos { s.pos with edat := level } else s

/-- PIN_TRANSITION (R139). A level that is the sensed level already is no transition. While RESETN is
asserted the pin's level is sensed and nothing else follows (R106). -/
def execPinTransition (pin : Nat) (level : Level) (s : State) : Result :=
  match ixOf 8 pin with
  | some c =>
    .next
      (if s.resetHeld then s.setChan c fun ch => { ch with sensed := level, filtered := level }
       else if s.chans[c.val].sensed = level then s
       else s.pinTransition c level)
  | none => .next (s.edatLevel pin level)

/-- A candidate whose change is due at the instant of the join step: counted after the step, its edge
carries a stamp of the new scale (R89, R98). A candidate whose timer still runs keeps its line time
(R139). That R139's words do not reach the due one is the model's choice (log 31). -/
def Candidate.moveDue (d : BitVec 48) (k : Candidate) : Candidate :=
  if k.left = 0 then { k with stamp := k.stamp + d } else k

/-- A channel at the join step: its FIFO emptied, a due candidate moved (R88, R89). -/
def Channel.joinStep (d : BitVec 48) (c : Channel) : Channel :=
  { c with fifo := [], cand := c.cand.map (Candidate.moveDue d) }

/-- The channels at the join step (R88, R89). -/
def State.stepChannels (s : State) (d : BitVec 48) : State :=
  s.setChans (mapVec s.chans fun _ c => c.joinStep d)

/-- The stamp FIFO emptied (R104). -/
def State.emptyFifos (s : State) : State :=
  s.setChans (mapVec s.chans fun _ c => { c with fifo := [] })

end Sys2Proof.Machine
end

