-- ==== Sys2Proof/Machine/Compare.lean ====
section
/-! DEFINITION. The compare and measure unit (chapter 10): comparators, latch table, measurement
table. -/

namespace Sys2Proof.Machine

/-! ### The latch table (R175, R176) -/

/-- A write of a slot (R176). -/
def LatchSlot.write (l : LatchSlot) (v : Value32) (stamp : LineTime) (src : PosSource) : LatchSlot :=
  { value := v, stamp := some stamp, source := src, isNew := true, overrun := l.isNew }

/-- A host read clears both flags (R177). -/
def LatchSlot.readByHost (l : LatchSlot) : LatchSlot := { l with isNew := false, overrun := false }

/-- A write reaches the latch table, in every station state, with the value and the acting time that it
carries (R176). -/
def State.writeLatch (s : State) (slot : Fin 8) (v : Value32) (acting : LineTime) (src : PosSource) :
    State :=
  s.setMeas { s.meas with latches := updVec s.meas.latches slot fun l => l.write v acting src }

/-- A LATCH request reaches the latch table: the slot is written, then its publish raised (R36, R37). -/
def State.latchRequest (s : State) (c : Cause) (v : Value32) (acting : LineTime) (src : PosSource)
    (slot : Fin 8) (publish : Option EventDesc) : State :=
  let s' := s.writeLatch slot v acting src
  match publish with
  | none => s'
  | some d =>
    s'.derive c.gen c.entry d
      { event := d.event, stamp := c.stamp, origin := .entry c.entry, gen := c.gen,
        payload := some v, restamped := c.restamped }

/-! ### The comparators (R170 to R174) -/

/-- The distance from the origin in the low `n` bits (R171). -/
def CmpConfig.distance (g : CmpConfig) (v : Value32) : Nat :=
  (v - g.origin).toNat % 2 ^ g.maskBits.toNat

/-- The outcome of an evaluation (R171). -/
def CmpConfig.outcome (g : CmpConfig) (v : Value32) : Bool :=
  if g.strict then decide (g.distance v < g.margin.toNat)
  else decide (g.distance v ≤ g.margin.toNat)

/-- The outcome's branch is forwarded (R172). -/
def CmpRuntime.forwards (r : CmpRuntime) (mode : CmpMode) (outcome : Bool) : Bool :=
  match mode with
  | .off => false
  | .once => !r.spent
  | .change => r.last == some (!outcome)
  | .every => true

/-- The runtime state after an evaluation (R172). -/
def CmpRuntime.after (r : CmpRuntime) (mode : CmpMode) (outcome : Bool) : CmpRuntime :=
  match mode with
  | .off => r
  | .once => if r.spent then r else { last := some outcome, spent := true }
  | .change => { r with last := some outcome }
  | .every => { r with last := some outcome }

/-- The binding row of a branch: 28 to 31 (R173). -/
def branchRow (k : Fin 2) (outcome : Bool) : Fin 32 :=
  if outcome then ⟨28 + 2 * k.val, by omega⟩ else ⟨29 + 2 * k.val, by omega⟩

/-- The latch slot configured for an outcome (R169). -/
def CmpConfig.slotFor (g : CmpConfig) (outcome : Bool) : Option (Fin 8) :=
  if outcome then g.trueSlot else g.falseSlot

/-- The latch slot's part of a forward (R173 step 1). -/
def State.forwardLatch (s : State) (slot : Option (Fin 8)) (v : Value32) (acting : LineTime)
    (src : PosSource) : State :=
  match slot with
  | some i => s.writeLatch i v acting src
  | none => s

/-- A branch is forwarded: the latch slot, then the row (R173). -/
def State.forwardBranch (s : State) (k : Fin 2) (c : Cause) (v : Value32) (acting : LineTime)
    (outcome : Bool) : State :=
  let g := s.meas.cmpCfg[k.val]
  (s.forwardLatch (g.slotFor outcome) v acting g.source).fireDerived (branchRow k outcome) c c.stamp
    (some v) c.restamped

/-- A comparator's runtime state after an evaluation of `v`. -/
def State.recordOutcome (s : State) (k : Fin 2) (outcome : Bool) : State :=
  s.setMeas
    { s.meas with
      cmpRun := updVec s.meas.cmpRun k fun r => r.after s.meas.cmpCfg[k.val].mode outcome }

/-- A COMPARE request reaches its comparator, with the compared value sampled at its acting time (R171,
R172). -/
def State.compareRequest (s : State) (c : Cause) (v : Value32) (acting : LineTime) (k : Fin 2) :
    State :=
  if !s.isOpen then s
  else
    let g := s.meas.cmpCfg[k.val]
    let s' := s.recordOutcome k (g.outcome v)
    if s.meas.cmpRun[k.val].forwards g.mode (g.outcome v) then
      s'.forwardBranch k c v acting (g.outcome v)
    else s'

/-- A comparator's runtime state cleared (R170, R174). -/
def State.clearCmp (s : State) (k : Fin 2) : State :=
  s.setMeas { s.meas with cmpRun := updVec s.meas.cmpRun k fun _ => .cleared }

/-- Both comparators' runtime states cleared (R104). -/
def State.clearCmps (s : State) : State :=
  s.setMeas { s.meas with cmpRun := mapVec s.meas.cmpRun fun _ _ => .cleared }

/-! ### The measurement table (R178, R179) -/

/-- The edge kind a MEASURE asks for admits an edge (R40). -/
def EdgeSelect.admits : EdgeSelect → EdgeKind → Bool
  | .rise, .rise => true
  | .rise, .fall => false
  | .fall, .fall => true
  | .fall, .rise => false
  | .either, _ => true

/-- The `i`-th newest edge of the chosen kind (R40). -/
def selectEdge (l : List Edge) (k : EdgeSelect) (i : Nat) : Option Edge :=
  (l.filter fun e => k.admits e.kind)[i]?

/-- The interval is outside the signed 32-bit range (R179). -/
def saturates (d : Int) : Bool := decide (d < -(2 ^ 31)) || decide (2 ^ 31 - 1 < d)

/-- What a MEASURE writes (R179). -/
def measSlot (c : Cause) (e : Option Edge) : MeasSlot :=
  match e with
  | none =>
    { value := 0, valid := false, saturated := false, occStamp := some c.stamp, edge := none,
      restamped := c.restamped }
  | some e =>
    let d := timeDiff c.stamp e.stamp
    { value := sat32 d, valid := true, saturated := saturates d, occStamp := some c.stamp,
      edge := some e, restamped := c.restamped }

/-- A MEASURE request reaches the measurement table, in every station state, with the edge selected at its
acting time or its absence (R179). -/
def State.measureRequest (s : State) (c : Cause) (e : Option Edge) (slot : Fin 8) : State :=
  s.setMeas { s.meas with slots := updVec s.meas.slots slot fun _ => measSlot c e }

end Sys2Proof.Machine
end

