-- ==== Sys2Proof/Machine/Schedule.lean ====
section
/-! DEFINITION. The action schedule (chapter 03). -/

namespace Sys2Proof.Machine

/-! ### Phases -/

/-- The levels an entry's pending phase gives its masked channels (R49). -/
def SchedEntry.levels (e : SchedEntry) : Byte :=
  match e.phase with
  | .on => e.onLevels
  | .off => ~~~e.onLevels

/-- The suppressed count goes up by one and stays at 255 (R49). -/
def SchedEntry.countSuppressed (e : SchedEntry) (suppressed : Bool) : SchedEntry :=
  if suppressed && e.suppressed != 255 then { e with suppressed := e.suppressed + 1 } else e

/-- The entry after its phase has been applied on the channels of `s` (R49). -/
def SchedEntry.afterPhase (e : SchedEntry) (s : State) : SchedEntry :=
  e.countSuppressed (s.anyUndriven e.mask)

/-- The application of an entry's pending phase: one update of the output word (R49). -/
def State.applyPhase (s : State) (e : SchedEntry) : State := s.updateOutputs e.mask e.levels

/-! ### Order (R45) -/

/-- An entry's place: behind every entry due earlier or at its own due time. -/
def placeEntry (e : SchedEntry) : List SchedEntry → List SchedEntry
  | [] => [e]
  | x :: l => if isLater x.due e.due then e :: x :: l else x :: placeEntry e l

/-- An entry takes the next insertion sequence and its place. -/
def State.stampEntry (s : State) (e : SchedEntry) : State :=
  s.setSched
    { entries := placeEntry { e with seq := s.sched.counter } s.sched.entries,
      counter := s.sched.counter + 1 }

/-! ### Repetition (R50, R51, R53, R54) -/

/-- The end event of a completed entry (R54): stamp, the due time of the last phase applied. -/
def State.endEvent (s : State) (e : SchedEntry) : State :=
  match e.endEvent with
  | none => s
  | some d =>
    s.derive e.causeGen e.originEntry d
      { event := d.event, stamp := e.due, origin := .entry e.originEntry, gen := e.causeGen,
        payload := none, restamped := e.causeRestamped }

/-- The entry at its next pulse of the burst (R51, first case). -/
def SchedEntry.nextPulse (e : SchedEntry) : SchedEntry :=
  let start := e.burstStart + e.innerSpacing.setWidth 48
  { e with phase := .on, innerRem := e.innerRem - 1, burstStart := start, due := start }

/-- The entry at its next burst (R51, second case). -/
def SchedEntry.nextBurst (e : SchedEntry) : SchedEntry :=
  let start := e.trainStart + e.outerSpacing.setWidth 48
  { e with
    phase := .on, outerRem := e.outerRem - 1, innerRem := e.innerCount, trainStart := start,
    burstStart := start, due := start }

/-- The repetition step, for an entry that is no longer in the schedule (R51, R53). -/
def State.repetition (s : State) (e : SchedEntry) : State :=
  if 1 < e.innerRem.toNat then s.stampEntry e.nextPulse
  else if 1 < e.outerRem.toNat then s.stampEntry e.nextBurst
  else s.endEvent e

/-- The entry waiting for its OFF phase (R50). -/
def SchedEntry.offPending (e : SchedEntry) : SchedEntry :=
  { e with phase := .off, due := e.burstStart + e.width.setWidth 48 }

/-- What follows the application of an entry's phase (R50, R51). -/
def State.afterExpiry (s : State) (e : SchedEntry) : State :=
  if e.phase = .on ∧ e.width ≠ 0 then s.stampEntry e.offPending else s.repetition e

/-- The expiry of an entry that has been taken out of the schedule (R46, R50, R51). -/
def State.expireEntry (s : State) (e : SchedEntry) : State :=
  (s.applyPhase e).afterExpiry (e.afterPhase s)

/-- The head's due time has been reached (R46). -/
def State.scheduleDue (s : State) : Bool :=
  match s.sched.entries with
  | [] => false
  | e :: _ => !isLater e.due s.time.lineTime

/-- The expiry of the head (R46). -/
def State.scheduleExpiry (s : State) : State :=
  match s.sched.entries with
  | [] => s
  | e :: l => (s.setSched { s.sched with entries := l }).expireEntry e

/-- SCHEDULE_EXPIRY (R46). -/
def execScheduleExpiry (s : State) : Result := actIf s.scheduleDue s State.scheduleExpiry

/-! ### Insertion (R47, R48) -/

/-- The entry a DRIVE request gives, due at `due` (R48). Its sequence is set when it is stamped. -/
def driveEntry (p : DriveParams) (c : Cause) (due : LineTime) (late : Bool) : SchedEntry :=
  { due := due, phase := .on, mask := p.mask, onLevels := p.onLevels, width := p.width,
    burstStart := due, trainStart := due, innerRem := p.innerCount, innerCount := p.innerCount,
    innerSpacing := p.innerSpacing, outerRem := p.outerCount, outerSpacing := p.outerSpacing,
    tag := p.tag, endEvent := p.endEvent, originEntry := c.entry, event := c.event,
    causeGen := c.gen, causeRestamped := c.restamped, late := late, suppressed := 0, seq := 0 }

/-- The due time a DRIVE request carries (R34). -/
def driveDue (p : DriveParams) (c : Cause) : LineTime := c.stamp + p.delay.setWidth 48

/-- A late insertion: ACTION_LATE, the entry stamped, and its first ON phase applied at once (R48). -/
def State.insertLate (s : State) (p : DriveParams) (c : Cause) : State :=
  let now := s.time.lineTime
  let s' := s.report (.actionLate (satTicks (now - driveDue p c).toNat) c.entry)
  (s'.setSched { s'.sched with counter := s'.sched.counter + 1 }).expireEntry
    { driveEntry p c now true with seq := s'.sched.counter }

/-- A DRIVE request reaches the schedule (R47). -/
def State.drive (s : State) (p : DriveParams) (c : Cause) : State :=
  if !s.isOpen then s
  else if Config.scheduleCapacity ≤ s.sched.entries.length then
    s.report (.scheduleFull c.entry c.event)
  else if isLater (driveDue p c) s.time.lineTime then
    s.stampEntry (driveEntry p c (driveDue p c) false)
  else s.insertLate p c

/-! ### Cancellation (R55, R56) -/

/-- The report of a cancelled entry (R55). -/
def SchedEntry.cancelReport (e : SchedEntry) : ReportBody :=
  .cancelled e.tag e.originEntry e.innerRem e.outerRem e.suppressed

/-- One entry removed by a CANCEL: a pending OFF is applied at once, then CANCELLED (R55, R56). -/
def State.cancelOne (s : State) (e : SchedEntry) : State :=
  match e.phase with
  | .on => s.report e.cancelReport
  | .off => (s.applyPhase e).report (e.afterPhase s).cancelReport

/-- The removals of a CANCEL in schedule order, head first (R55). -/
def State.cancelAll (tag : BitVec 4) : List SchedEntry → State → State
  | [], s => s
  | e :: l, s => State.cancelAll tag l (if e.tag = tag then s.cancelOne e else s)

/-- The entries of a tag removed from the schedule, each dealt with in schedule order (R55). -/
def State.removeTagged (s : State) (tag : BitVec 4) : State :=
  let s' := State.cancelAll tag s.sched.entries s
  s'.setSched { s'.sched with entries := s.sched.entries.filter fun e => e.tag != tag }

/-- Entries that a CANCEL has been left stand ahead of the others again. -/
def State.putBack (s : State) (left : List SchedEntry) : State :=
  s.setSched { s.sched with entries := left ++ s.sched.entries }

/-- The expiries that are taken before a CANCEL of the same instant (R57). The head, while it is due,
expires or, where it has the tag, is left to the CANCEL, or the CANCEL is taken now: each is a free choice
(log 3, log 35). -/
def State.expireBefore (tag : BitVec 4) : Nat → List SchedEntry → State → State
  | 0, left, s => s.putBack left
  | n + 1, left, s =>
    match s.sched.entries with
    | [] => s.putBack left
    | e :: l =>
      if isLater e.due s.time.lineTime then s.putBack left
      else
        let s' := s.useChoices 1
        if Config.freeChoice s.choices % 3 = 0 then s'.putBack left
        else if Config.freeChoice s.choices % 3 = 1 ∧ e.tag = tag then
          State.expireBefore tag n (left ++ [e]) (s'.setSched { s.sched with entries := l })
        else State.expireBefore tag n left s'.scheduleExpiry

/-- A CANCEL request reaches the schedule: of the entries due at its instant, each has its own order of
expiry and CANCEL (R55, R57). -/
def State.cancel (s : State) (tag : BitVec 4) : State :=
  if !s.isOpen then s
  else (State.expireBefore tag Config.cancelLookahead [] s).removeTagged tag

/-! ### Flush (R59) -/

/-- The flush: every entry removed, the OUT channels at their rest levels, SCHEDULE_FLUSHED. -/
def State.flushSchedule (s : State) : State :=
  ((s.setSched { s.sched with entries := [] }).restOutputs).report
    (.scheduleFlushed s.sched.entries.length)

end Sys2Proof.Machine
end

