-- ==== Sys2Proof/Machine/Dispatcher.lean ====
section
/-! DEFINITION. The dispatcher (chapters 01 and 02): the scan of the subscription table and the
requests its entries hand on. -/

namespace Sys2Proof.Machine

/-- The cause a request carries: the current occurrence and the acting entry (R16). -/
def Occurrence.causeFor (o : Occurrence) (e : Fin 64) : Cause :=
  { event := o.event, stamp := o.stamp, payload := o.payload, gen := o.gen,
    restamped := o.restamped, entry := e }

/-- The position that an action samples as its entry acts; 0 for an action that samples none (R32, R36,
R39). -/
def State.samplePos (s : State) : Action → Value32
  | .latch src _ _ => s.pos.read src
  | .compare k => s.pos.read s.meas.cmpCfg[k.val].source
  | .drive _ => 0
  | .cancel _ => 0
  | .capture => 0
  | .measure _ _ _ _ => 0
  | .preset _ => 0

/-- The edge that a MEASURE selects as its entry acts, or its absence (R40). -/
def State.sampleEdge (s : State) : Action → Option Edge
  | .measure channel k i _ => selectEdge s.chans[channel.val].fifo k i.toNat
  | .drive _ => none
  | .cancel _ => none
  | .latch _ _ _ => none
  | .capture => none
  | .compare _ => none
  | .preset _ => none

/-- The request that an entry hands on as it acts, complete at that instant (R32). -/
def State.handOn (s : State) (a : Action) (c : Cause) : Request :=
  { action := a, cause := c, actingTime := s.time.lineTime, sample := s.samplePos a,
    edge := s.sampleEdge a }

/-- A request is taken by the block its kind names (R32 to R41). -/
def State.takeRequest (s : State) (r : Request) : State :=
  match r.action with
  | .drive p => s.drive p r.cause
  | .cancel tag => s.cancel tag
  | .latch src slot publish => s.latchRequest r.cause r.sample r.actingTime src slot publish
  | .capture => s.captureRequest r.cause
  | .compare k => s.compareRequest r.cause r.sample r.actingTime k
  | .measure _ _ _ slot => s.measureRequest r.cause r.edge slot
  | .preset v => s.presetPos v

/-- A request handed on and taken at once. -/
def State.request (s : State) (a : Action) (c : Cause) : State := s.takeRequest (s.handOn a c)

/-- The request under way is taken (R18, R61). -/
def State.takeUnderWay (s : State) : State :=
  match s.disp.underWay with
  | some r => (s.setDisp { s.disp with underWay := none }).takeRequest r
  | none => s

/-- A request is left under way, to be taken later in the same instant (R61). -/
def State.leaveUnderWay (s : State) (r : Request) : State :=
  s.setDisp { s.disp with underWay := some r }

/-- A request handed on is taken at once, or stays under way while other things reach its block at the same
instant, a flush among them: a free choice (R31, R32, R61, log 3, log 30). -/
def State.passOn (s : State) (r : Request) : State :=
  if Config.freeChoice s.choices % 2 = 0 then (s.useChoices 1).takeRequest r
  else (s.useChoices 1).leaveUnderWay r

/-- An entry of policy ONCE is disarmed as it acts (R29). -/
def State.disarmOnce (s : State) (i : Fin 64) : State :=
  if s.disp.subs[i.val].policy = .once then
    s.setDisp { s.disp with subs := updVec s.disp.subs i fun e => { e with armed := false } }
  else s

/-- The entry at an index is examined against an occurrence; where it matches it acts, handing on its
request (R15, R29, R32). -/
def State.examine (s : State) (i : Fin 64) (o : Occurrence) : State :=
  let e := s.disp.subs[i.val]
  if e.matchesOcc o then (s.disarmOnce i).passOn (s.handOn e.action (o.causeFor i)) else s

/-- The scan moves to the next position. -/
def State.advanceScan (s : State) : State :=
  s.setDisp { s.disp with scanPos := s.disp.scanPos + 1 }

/-- The dispatcher is IDLE and the queue is not empty (R15). -/
def State.dispatchStartDue (s : State) : Bool :=
  s.disp.current.isNone && !s.disp.queue.isEmpty

/-- The head becomes the current occurrence, scanning from position 0 (R15). -/
def State.dispatchStart (s : State) : State :=
  match s.disp.queue with
  | [] => s
  | o :: q => s.setDisp { s.disp with queue := q, current := some o, scanPos := 0 }

/-- DISPATCH_START (R15). -/
def execDispatchStart (s : State) : Result := actIf s.dispatchStartDue s State.dispatchStart

/-- The dispatcher is SCANNING at a position not yet examined (R15). -/
def State.scanDue (s : State) : Bool := s.disp.current.isSome && decide (s.disp.scanPos < 64)

/-- The entry at the scan position is examined and the scan moves on (R15). The request of an earlier entry
is taken by then, requests being taken in index order (R32, log 30). -/
def State.entryExamined (s : State) : State :=
  match s.disp.current, ixOf 64 s.disp.scanPos with
  | some o, some i => (s.takeUnderWay.examine i o).advanceScan
  | some _, none => s
  | none, _ => s

/-- ENTRY_EXAMINED (R15). -/
def execEntryExamined (s : State) : Result := actIf s.scanDue s State.entryExamined

/-- Position 63 has been examined (R15). -/
def State.dispatchCompleteDue (s : State) : Bool :=
  s.disp.current.isSome && decide (64 ≤ s.disp.scanPos)

/-- The current occurrence is discarded: IDLE (R15). -/
def State.endDispatch (s : State) : State :=
  s.setDisp { s.disp with current := none, scanPos := 0 }

/-- DISPATCH_COMPLETE (R15). -/
def execDispatchComplete (s : State) : Result := actIf s.dispatchCompleteDue s State.endDispatch

/-- The dispatcher at the entry to LEAVING and at RESTART: the dispatch ended, the queue emptied; a request
already handed on stays handed on (R14, R18). -/
def State.closeDispatch (s : State) : State :=
  s.setDisp { s.disp with queue := [], current := none, scanPos := 0 }

/-- Every armed flag set (R28). -/
def State.armAll (s : State) : State :=
  s.setDisp { s.disp with subs := mapVec s.disp.subs fun _ e => { e with armed := true } }

/-- One armed flag set (R30). -/
def State.armOne (s : State) (i : Fin 64) : State :=
  s.setDisp { s.disp with subs := updVec s.disp.subs i fun e => { e with armed := true } }

end Sys2Proof.Machine
end

