-- ==== Sys2Proof/Machine/LineTime.lean ====
section
/-! DEFINITION. The line time unit (chapter 04): configuration in ticks, the peer time table, the
median, the sync round. -/

namespace Sys2Proof.Machine

/-! ### Configuration in ticks (R71, R108) -/

/-- The sync base in local ticks. JOIN refuses the codes the table does not name (R95), so their 0 is
never used (log 16). -/
def StationConfig.baseTicks (g : StationConfig) : Nat :=
  if g.syncBase = 0 then 100000
  else if g.syncBase = 1 then 400000
  else if g.syncBase = 2 then 1600000
  else 0

/-- The sync period P in local ticks (R71). -/
def StationConfig.period (g : StationConfig) : Nat := g.syncMult.toNat * g.baseTicks

/-- The bit time in ticks; a code that names no rate has none (R108, log 16). -/
def StationConfig.bitTicks (g : StationConfig) : Option Nat :=
  if g.lineRate = 0 then some 200
  else if g.lineRate = 1 then some 100
  else if g.lineRate = 2 then some 50
  else none

/-- A run of `ticks` has lasted `bits` bit times. -/
def StationConfig.lasted (g : StationConfig) (ticks bits : Nat) : Bool :=
  match g.bitTicks with
  | some b => decide (bits * b ≤ ticks)
  | none => false

/-- The station's own number (R95: 0 to 63 while it is on the line). -/
def StationConfig.ownNumber (g : StationConfig) : StationNo := g.station.setWidth 6

/-! ### The peer time table (R72 to R77) -/

/-- The record of a station. The table is held in ascending station number (log 22). -/
def findPeer (l : List PeerRecord) (n : StationNo) : Option PeerRecord :=
  l.find? fun r => r.station == n

/-- A record in its place. -/
def insertPeer (r : PeerRecord) : List PeerRecord → List PeerRecord
  | [] => [r]
  | x :: l => if r.station.toNat < x.station.toNat then r :: x :: l else x :: insertPeer r l

/-- The record of a station removed. -/
def removePeer (l : List PeerRecord) (n : StationNo) : List PeerRecord :=
  l.filter fun r => r.station != n

/-- The record of a station changed. -/
def updatePeer (l : List PeerRecord) (n : StationNo) (f : PeerRecord → PeerRecord) :
    List PeerRecord :=
  l.map fun r => if r.station = n then f r else r

/-- An existing record takes a SYNC: the offset of a pair, else absent (R73). -/
def PeerRecord.takeSync (r : PeerRecord) (seq : Byte) (synced : Bool) (stamp : LineTime)
    (prev : Option LineTime) : PeerRecord :=
  let off : PeerOffset :=
    match prev with
    | some t => if r.seq = seq - 1 then .fresh (t - r.stamp) else .absent
    | none => .absent
  { r with stamp := stamp, seq := seq, synced := synced, age := 0, offset := off }

/-- Of records of age 2 or more, the one of greatest age, and of equal ages the first, which is the
one of lowest station number (R75). -/
def oldestPeer : List PeerRecord → Option PeerRecord
  | [] => none
  | x :: l =>
    match oldestPeer l with
    | none => if 2 ≤ x.age then some x else none
    | some y => if 2 ≤ x.age ∧ y.age ≤ x.age then some x else some y

/-- The state with another peer time table. -/
def State.setPeers (s : State) (l : List PeerRecord) : State := s.setTime { s.time with peers := l }

/-- A record is created, with its report (R74). -/
def State.createPeer (s : State) (n : StationNo) (seq : Byte) (synced : Bool) (stamp : LineTime) :
    State :=
  (s.setPeers
        (insertPeer
          { station := n, stamp := stamp, seq := seq, offset := .absent, synced := synced, age := 0 }
          s.time.peers)).report
    (.peerJoined n synced)

/-- A new station reaches a full table (R75). -/
def State.replacePeer (s : State) (n : StationNo) (seq : Byte) (synced : Bool) (stamp : LineTime) :
    State :=
  match oldestPeer s.time.peers with
  | some old =>
    ((s.setPeers (removePeer s.time.peers old.station)).report
          (.peerLost old.station .replaced)).createPeer n seq synced stamp
  | none =>
    if s.time.peerFullReported then s
    else (s.setTime { s.time with peerFullReported := true }).report (.peerTableFull n)

/-- A valid SYNC of another station reaches the line time unit (R73 to R76). -/
def State.takeSync (s : State) (n : StationNo) (seq : Byte) (synced : Bool) (stamp : LineTime)
    (prev : Option LineTime) : State :=
  if !s.takesSync then s
  else if n.setWidth 8 = s.station.cfg.station then s.report (.stationClash seq)
  else if (findPeer s.time.peers n).isSome then
    s.setPeers (updatePeer s.time.peers n fun r => r.takeSync seq synced stamp prev)
  else if s.time.peers.length < Config.peerCapacity then s.createPeer n seq synced stamp
  else s.replacePeer n seq synced stamp

/-- A valid LEAVE notice of a station (R77, R134). -/
def State.takeLeave (s : State) (n : StationNo) : State :=
  if (s.takesSync || s.station.mode == .leaving) && (findPeer s.time.peers n).isSome then
    (s.setPeers (removePeer s.time.peers n)).report (.peerLost n .left)
  else s

/-! ### Offsets and the median (R80, R87) -/

/-- The value of a FRESH offset. -/
def PeerOffset.freshValue : PeerOffset → Option Int
  | .fresh v => some v.toInt
  | .used _ => none
  | .absent => none

/-- A FRESH offset consumed (R72). -/
def PeerOffset.consume : PeerOffset → PeerOffset
  | .fresh v => .used v
  | .used v => .used v
  | .absent => .absent

/-- The values of the FRESH offsets of the records that a test picks. -/
def freshOffsets (l : List PeerRecord) (pick : PeerRecord → Bool) : List Int :=
  l.filterMap fun r => if pick r then r.offset.freshValue else none

/-- A value in its place in an ascending list. -/
def insertValue (x : Int) : List Int → List Int
  | [] => [x]
  | y :: l => if x ≤ y then x :: y :: l else y :: insertValue x l

/-- The values in ascending order. -/
def ascending : List Int → List Int
  | [] => []
  | x :: l => insertValue x (ascending l)

/-- The median: the middle value, or the midpoint of the two middle values rounded toward zero; of no
values, 0 (R80). -/
def median (l : List Int) : Int :=
  let a := ascending l
  let n := l.length
  if n % 2 = 1 then a[n / 2]?.getD 0
  else (a[n / 2 - 1]?.getD 0 + a[n / 2]?.getD 0).tdiv 2

/-! ### The own SYNC (R84) -/

/-- The own SYNC takes the SYNC place unless one is there (R84, R123). -/
def State.placeSync (s : State) : State :=
  if s.line.txq.any Notice.isSync then s
  else s.joinTx { body := .sync, priority := 0, errored := 0, inTx := false }

/-! ### The sync round (R80 to R84) -/

/-- The set of offsets of a round: the station's own 0 and the FRESH offsets of synced records. -/
def roundSet (l : List PeerRecord) : List Int := 0 :: freshOffsets l fun r => r.synced

/-- A number clamped to −m … m. -/
def clampTo (m x : Int) : Int := if x < -m then -m else if m < x then m else x

/-- The records of a round that reach the age limit, once aged (R81). -/
def agedOut (l : List PeerRecord) : List PeerRecord :=
  l.filter fun r => decide (Config.ageLimit ≤ r.age + 1)

/-- The table after a round: offsets consumed, ages up by one, records of age 4 removed (R81). -/
def roundPeers (l : List PeerRecord) : List PeerRecord :=
  (l.filter fun r => !decide (Config.ageLimit ≤ r.age + 1)).map fun r =>
    { r with age := r.age + 1, offset := r.offset.consume }

/-- The station state and the two counts after a round, in step or not (R83). -/
def roundMode (m : StationMode) (out inn : Nat) (inStep : Bool) : StationMode × Nat × Nat :=
  match m, inStep with
  | .active, true => (.active, 0, inn)
  | .active, false => if 3 ≤ out + 1 then (.drifted, 0, 0) else (.active, out + 1, inn)
  | .drifted, false => (.drifted, out, 0)
  | .drifted, true => if 2 ≤ inn + 1 then (.active, 0, 0) else (.drifted, out, inn + 1)
  | .config, _ => (.config, out, inn)
  | .listen, _ => (.listen, out, inn)
  | .leaving, _ => (.leaving, out, inn)

/-- The round is in step (R82). -/
def State.roundInStep (s : State) : Bool :=
  decide ((median (roundSet s.time.peers)).natAbs ≤ s.station.cfg.limitL.toNat)

/-- What a round leaves in the line time unit (R75, R79 to R83). -/
def State.roundTime (s : State) : TimeUnit :=
  let set := roundSet s.time.peers
  let m := median set
  let (_, out, inn) := roundMode s.station.mode s.time.outCount s.time.inCount s.roundInStep
  { s.time with
    peers := roundPeers s.time.peers
    lastMedian := BitVec.ofInt 48 m
    slew := clampTo s.station.cfg.limitS.toNat m
    alone := set.length == 1
    lastInStep := s.roundInStep
    outCount := out
    inCount := inn
    peerFullReported := false
    syncTimer := some s.station.cfg.period }

/-- The state a round leaves the station in (R83). -/
def State.roundNext (s : State) : StationMode :=
  (roundMode s.station.mode s.time.outCount s.time.inCount s.roundInStep).1

/-- The reports of a round that follow an order of the rules: PEER_LOST of aged records (in any order
among themselves), then SYNC_STATE (R81, R83). -/
def State.roundReports (s : State) : List ReportBody :=
  freeOrder s.choices ((agedOut s.time.peers).map fun r => ReportBody.peerLost r.station .aged) ++
    (if s.roundNext = s.station.mode then []
     else [.syncState s.roundNext (sat32 (median (roundSet s.time.peers)))])

/-- The end of a report period: RX_ERRORS where the count is not 0 (R133). -/
def State.periodReports (s : State) : List ReportBody :=
  if s.line.rxErrors = 0 then [] else [.rxErrors s.line.rxErrors]

/-- A list with the elements of another (none or one) put somewhere into it. -/
def mixIn {α : Type} (l : List α) (place : Nat) : List α → List α
  | [] => l
  | x :: _ => insertAt l (place % (l.length + 1)) x

/-- Every report of a round: RX_ERRORS stands anywhere among the others (R133, R189, log 11). -/
def State.allRoundReports (s : State) : List ReportBody :=
  mixIn s.roundReports (Config.freeChoice (s.choices + s.time.peers.length)) s.periodReports

/-- The receive error count set to 0 (R133). -/
def State.clearErrors (s : State) : State := s.setLine { s.line with rxErrors := 0 }

/-- The sync timer has run out (R79). -/
def State.syncRoundDue (s : State) : Bool := s.time.syncTimer == some 0

/-- One sync round (R80 to R84). -/
def State.syncRound (s : State) : State :=
  let s' := (s.setTime s.roundTime).setStation { s.station with mode := s.roundNext }
  (((s'.clearErrors).reportAll s.allRoundReports).placeSync).useChoices (s.time.peers.length + 1)

/-- SYNC_ROUND (R80). -/
def execSyncRound (s : State) : Result := actIf s.syncRoundDue s State.syncRound

/-! ### The join step (R87, R88) -/

/-- What the line time unit chooses at the expiry of the listen window (R87). -/
structure JoinChoice where
  step : Int
  mode : StationMode
  founding : Bool
  deriving DecidableEq, Repr

/-- The choice of R87. -/
def joinChoice (l : List PeerRecord) : JoinChoice :=
  let synced := freshOffsets l fun r => r.synced
  let fresh := freshOffsets l fun _ => true
  if synced ≠ [] then { step := median synced, mode := .active, founding := false }
  else if fresh ≠ [] then { step := median fresh, mode := .drifted, founding := false }
  else { step := 0, mode := .active, founding := true }

/-- The line time unit after the join step (R80, R82, R83, R88). -/
def TimeUnit.joinStep (t : TimeUnit) (c : JoinChoice) (period : Nat) : TimeUnit :=
  let d := BitVec.ofInt 48 c.step
  { lineTime := t.lineTime + d
    slew := 0
    peers := t.peers.map fun r => { r with stamp := r.stamp + d, offset := r.offset.consume }
    syncTimer := some period
    lastMedian := 0
    lastInStep := true
    outCount := 0
    inCount := 0
    alone := c.founding
    syncCount := 0
    prevEdge := none
    peerFullReported := false }

end Sys2Proof.Machine
end

