-- ==== Sys2Proof/Machine/Station.lean ====
section
/-! DEFINITION. The station controller (chapter 05): JOIN, LEAVE, RESTART, the end of the listen
window, the drain, hardware reset; and how a host command records its status (R184). -/

namespace Sys2Proof.Machine

/-! ### The command status (R184) -/

/-- The command status replaced. -/
def State.record (s : State) (source : Byte) (outcome : CmdOutcome) (detail : Byte) : State :=
  s.setHost { s.host with status := { source := source, outcome := outcome, detail := detail } }

/-- The command is taken. -/
def State.taken (s : State) (source : Byte) : State := s.record source .taken 0

/-- The command is refused with the station state. -/
def State.refuse (s : State) (source : Byte) : State :=
  s.record source .refused s.station.mode.code

/-- A check fails: its code goes to the configuration error code and to the detail (R187, R188). -/
def State.checkFailed (s : State) (source : Byte) (e : ConfigError) : State :=
  let s' := s.record source .checkFailed e.code
  s'.setHost { s'.host with errorCode := e }

/-- The configuration error code cleared (R188). -/
def State.clearError (s : State) : State := s.setHost { s.host with errorCode := .none }

/-- The station state changes. -/
def State.setMode (s : State) (m : StationMode) : State :=
  s.setStation { s.station with mode := m }

/-! ### JOIN (R95, R96) -/

/-- Check 1: the station number lies in 0 to 63. -/
def StationConfig.stationOk (g : StationConfig) : Bool := decide (g.station.toNat ≤ 63)

/-- Check 2: the sync base names a base and the multiplier lies in 1 to 63. -/
def StationConfig.syncOk (g : StationConfig) : Bool :=
  decide (g.syncBase.toNat ≤ 2) && decide (1 ≤ g.syncMult.toNat) && decide (g.syncMult.toNat ≤ 63)

/-- Check 3: L and S lie in their ranges and L is at least S. -/
def StationConfig.limitsOk (g : StationConfig) : Bool :=
  decide (1 ≤ g.limitL.toNat) && decide (1 ≤ g.limitS.toNat) && decide (g.limitS.toNat ≤ 4095) &&
    decide (g.limitS.toNat ≤ g.limitL.toNat)

/-- Check 4: the line rate names a rate. -/
def StationConfig.rateOk (g : StationConfig) : Bool := g.bitTicks.isSome

/-- Check 5: a position mode that uses IO0 and IO1 finds both of direction IN. -/
def State.positionOk (s : State) : Bool :=
  s.pos.cfg.mode == .off ||
    (s.chans[0].cfg.direction == .input && s.chans[1].cfg.direction == .input)

/-- The first check of JOIN that fails, or none (R95). -/
def State.joinCheck (s : State) : Option ConfigError :=
  if !s.station.cfg.stationOk then some .joinStation
  else if !s.station.cfg.syncOk then some .joinSync
  else if !s.station.cfg.limitsOk then some .joinLimits
  else if !s.station.cfg.rateOk then some .joinRate
  else if !s.positionOk then some .joinPosition
  else none

/-- The listen window in local ticks (R71, R91). -/
def StationConfig.listenTicks (g : StationConfig) : Nat := 3 * g.period

/-- The leave timeout in local ticks (R71, R91). -/
def StationConfig.leaveTicks (g : StationConfig) : Nat := 4 * g.period

/-- The line engine as JOIN starts it: receiver and stuck-line watch, the first report period (R96,
R110, R119, R133). -/
def LineEngine.startReceiver (l : LineEngine) : LineEngine :=
  { l with rx := .seeking, recessiveRun := 0, dominantRun := 0, rxErrors := 0 }

/-- The peer time table emptied without reports, and the condition of PEER_TABLE_FULL cleared (R72,
R75). -/
def TimeUnit.emptyPeers (t : TimeUnit) : TimeUnit :=
  { t with peers := [], peerFullReported := false }

/-- A taken JOIN (R96). -/
def State.joinTaken (s : State) : State :=
  (((((((s.setTime s.time.emptyPeers).armAll).setLine s.line.startReceiver).setStation
          { s.station with mode := .listen, listenTimer := some s.station.cfg.listenTicks }).clearError).taken
        1).report
    (.stateChange .listen .join))

/-- The command JOIN, value 1 (R95, R96). -/
def State.join (s : State) : State :=
  if !s.inConfig then s.refuse 1
  else
    match s.joinCheck with
    | some e => s.checkFailed 1 e
    | none => s.joinTaken

/-! ### The entry to CONFIG (R101, R117) -/

/-- The line engine as it stands once transmitter and receiver are off: the attempt cut off, the frame
in reception discarded, the stuck condition cleared, the transmit queue empty and no gap awaited (R101, R110,
R115, R117, R119, R121, log 23). -/
def LineEngine.off (l : LineEngine) : LineEngine :=
  { l with
    rx := .off, rxFrame := none, stuck := false, attempt := .waitGap, attemptBytes := [], txq := [],
    txl := true, txClock := none, awaitGap := false }

/-- The end of the report period at the entry to CONFIG (R133). -/
def State.closePeriod (s : State) : State := (s.reportAll s.periodReports).clearErrors

/-- The station enters CONFIG from LEAVING (R101, R133). -/
def State.enterConfig (s : State) (cause : StateCause) : State :=
  let s' := s.closePeriod
  ((s'.setLine s'.line.off).setStation
        { s'.station with mode := .config, listenTimer := none, leaveTimer := none }).report
    (.stateChange .config cause)

/-! ### LEAVE and the drain (R99, R100, R102) -/

/-- The sync timer stopped and the slew 0 (R69, R79). -/
def TimeUnit.stopSync (t : TimeUnit) : TimeUnit := { t with syncTimer := none, slew := 0 }

/-- A waiting own SYNC withdrawn; one in transmission runs on (R86, R123). -/
def withdrawSync (q : List Notice) : List Notice := q.filter fun n => !n.isSync || n.inTx

/-- A taken LEAVE (R99). -/
def State.leaveTaken (s : State) : State :=
  let a := s.closeDispatch.flushSchedule
  let b := (a.setTime a.time.stopSync).setLine { a.line with txq := withdrawSync a.line.txq }
  ((b.setStation
          { b.station with
            mode := .leaving, listenTimer := none, leaveTimer := some b.station.cfg.leaveTicks }).taken
        2).report
    (.stateChange .leaving .leave)

/-- LEAVE is taken in LISTEN, ACTIVE and DRIFTED (R99). -/
def State.takesLeave (s : State) : Bool := s.isOpen || s.station.mode == .listen

/-- The command LEAVE, value 2 (R99). -/
def State.leave (s : State) : State := if s.takesLeave then s.leaveTaken else s.refuse 2

/-- LEAVING, and no EVENT notice and no LEAVE notice in the transmit queue (R100). -/
def State.leavePlaceDue (s : State) : Bool :=
  s.station.mode == .leaving && !(s.line.txq.any fun n => n.isEvent || n.isLeave)

/-- The LEAVE notice takes its place (R100, R124). -/
def State.placeLeave (s : State) : State :=
  s.joinTx { body := .leave 0, priority := 7, errored := 0, inTx := false }

/-- LEAVE_NOTICE_PLACED (R100). -/
def execLeaveNoticePlaced (s : State) : Result := actIf s.leavePlaceDue s State.placeLeave

/-- The leave timer has run out (R102). -/
def State.leaveTimeoutDue (s : State) : Bool :=
  s.station.mode == .leaving && s.station.leaveTimer == some 0

/-- EVENT_LOST for an EVENT notice; nothing for the others (R102). -/
def Notice.lostReport (reason : LostReason) (n : Notice) : Option ReportBody :=
  match n.body with
  | .event o => some (.eventLost o.event reason)
  | .sync => none
  | .leave _ => none

/-- The drain is given up (R102). -/
def State.leaveTimeout (s : State) : State :=
  (s.reportAll (s.line.txq.filterMap (Notice.lostReport .leaveTimeout))).enterConfig .leaveTimeout

/-- LEAVE_TIMEOUT (R102). -/
def execLeaveTimeout (s : State) : Result := actIf s.leaveTimeoutDue s State.leaveTimeout

/-! ### RESTART (R104) -/

/-- The line time unit at RESTART: the timer stopped, the table emptied, the counters of the rounds
and of the own SYNC notices cleared; the line time runs on (R80, R82, R86, R104). -/
def TimeUnit.restart (t : TimeUnit) : TimeUnit :=
  { TimeUnit.reset with lineTime := t.lineTime }

/-- The report queue emptied; a capture made before removes nothing afterwards (R189, R190, log 25). -/
def State.emptyReports (s : State) : State :=
  s.setHost { s.host with reports := [], captureLive := false }

/-- The insertion sequence counter set to 0 (R60). -/
def State.zeroCounter (s : State) : State := s.setSched { s.sched with counter := 0 }

/-- RESTART at the blocks that make no report (R104). -/
def State.restartBlocks (s : State) : State :=
  let a := (s.setLine { s.line.off with rxErrors := 0 }).setTime s.time.restart
  let b := ((a.closeDispatch.armAll).emptyFifos).clearCmps
  (b.setPos b.pos.abandonRead).emptyReports

/-- The command RESTART, value 3, taken in every station state (R104). -/
def State.restart (s : State) : State :=
  (((s.restartBlocks.flushSchedule.zeroCounter).setStation
          { s.station with mode := .config, listenTimer := none, leaveTimer := none }).taken
        3).report
    (.stateChange .config .restart)

/-! ### The end of the listen window (R87, R88, R98) -/

/-- The listen timer has run out (R98). -/
def State.listenDue (s : State) : Bool :=
  s.station.mode == .listen && s.station.listenTimer == some 0

/-- Line time has gone on by `n` ticks: so has the time since the line was found stuck (R119). -/
def LineEngine.passTicks (l : LineEngine) (n : Int) : LineEngine :=
  if l.stuck then { l with stuckFor := l.stuckFor + n } else l

/-- The line engine at the join step: the raw stamp of a frame in reception and the time since the line
was found stuck move with line time (R111, R119). -/
def LineEngine.joinStep (l : LineEngine) (step : Int) : LineEngine :=
  { l.passTicks step with
    rxFrame := l.rxFrame.map fun f => { f with rawStamp := f.rawStamp + BitVec.ofInt 48 step } }

/-- The cause of STATE_CHANGE at the end of the listen window (R98). -/
def JoinChoice.cause (c : JoinChoice) : StateCause := if c.founding then .founded else .stepped

/-- The line time that the RX_ERRORS report of the listen window carries: of the scale before the
step or after it (R98, R133, log 12). -/
def State.periodTime (s : State) (d : BitVec 48) : LineTime :=
  if Config.freeChoice s.choices % 2 = 0 then s.time.lineTime else s.time.lineTime + d

/-- The end of the report period at the end of the listen window (R133). -/
def State.listenPeriod (s : State) (d : BitVec 48) : State :=
  if s.line.rxErrors = 0 then s
  else ((s.reportAt (s.periodTime d) (.rxErrors s.line.rxErrors)).clearErrors).useChoices 1

/-- The join step and what opens with it (R88, R98). -/
def State.joinStep (s : State) (c : JoinChoice) : State :=
  let d := BitVec.ofInt 48 c.step
  let a := s.listenPeriod d
  ((((a.setTime (a.time.joinStep c a.station.cfg.period)).setLine (a.line.joinStep c.step)).stepChannels d).setStation
        { a.station with mode := c.mode, listenTimer := none }).placeSync.report
    (.stateChange c.mode c.cause)

/-- The expiry of the listen window (R98). -/
def State.listenExpiry (s : State) : State := s.joinStep (joinChoice s.time.peers)

/-- LISTEN_WINDOW_EXPIRY (R98). -/
def execListenWindowExpiry (s : State) : Result := actIf s.listenDue s State.listenExpiry

/-! ### The commands of other blocks (R10, R30, R149, R174) -/

/-- The command REARM_SUB, value 4 (R30). -/
def State.rearmSub (s : State) : State :=
  if !s.isOpen then s.refuse 4
  else
    match ixOf 64 (paramByte s 0).toNat with
    | some i => (s.armOne i).taken 4
    | none => s.record 4 .badParameter 0

/-- The command REARM_CMP, value 5 (R174). -/
def State.rearmCmp (s : State) : State :=
  if !s.isOpen then s.refuse 5
  else
    match ixOf 2 (paramByte s 0).toNat with
    | some k => (s.clearCmp k).taken 5
    | none => s.record 5 .badParameter 0

/-- The detail of a refused RESTORE; a DISABLED channel refuses none (R184). -/
def restoreDetail : Option OutState → Option Byte
  | some .enabled => some 8
  | some .heldOff => some 9
  | none => some 10
  | some .disabled => none

/-- The command RESTORE, value 6, taken for a DISABLED channel in every station state (R149). -/
def State.restore (s : State) : State :=
  match ixOf 8 (paramByte s 0).toNat with
  | none => s.record 6 .badParameter 0
  | some c =>
    match restoreDetail s.chans[c.val].out with
    | some d => s.record 6 .refused d
    | none => ((s.setChan c Channel.enable).taken 6).report (.outputRestored c .host)

/-- INJECT's parameters are in their ranges (R10). -/
def State.injectOk (s : State) : Bool :=
  decide (1 ≤ (injectEvent s).toNat) && decide ((injectEvent s).toNat ≤ 4095) &&
    (injectScope s == .here || injectPriority s != 0)

/-- The occurrence INJECT creates (R10). -/
def State.injected (s : State) : Occurrence :=
  { event := (injectEvent s).setWidth 12, stamp := s.time.lineTime, origin := .hostPort, gen := 0,
    payload := injectPayload s, restamped := false }

/-- The command INJECT, value 7 (R10). -/
def State.inject (s : State) : State :=
  if !s.isOpen then s.refuse 7
  else if !s.injectOk then s.record 7 .badParameter 0
  else (s.raise (injectScope s) (injectPriority s) s.injected).taken 7

/-! ### Hardware reset (R106) -/

/-- Every block at its reset value, the pins keeping the levels the field drives; `held` says that
RESETN is asserted. The commands that wait and the choices used are the model's own. -/
def State.hardReset (s : State) (held : Bool) : State :=
  { State.reset with
    chans := mapVec s.chans fun _ c => Channel.reset c.sensed
    pos := PositionUnit.reset s.chans[0].sensed s.chans[1].sensed s.pos.edat
    resetHeld := held
    choices := s.choices
    pending := s.pending }

/-- HARDWARE_RESET: RESETN asserted, or its release or the completion of power-up (R106). -/
def execHardwareReset (edge : ResetEdge) (s : State) : Result :=
  match edge with
  | .assert => .next (s.hardReset true)
  | .release => .next (s.hardReset false)

end Sys2Proof.Machine
end

