-- ==== Sys2Proof/Machine/TableCheck.lean ====
section
/-! DEFINITION. STORE: the checks of the configuration tables and what an accepted STORE does (R6,
R23 to R26, R137, R153, R169, R187), from the staging area in the layouts of R196. -/

namespace Sys2Proof.Machine

/-- A staged record as it would be written, or the code of the first check that fails. -/
abbrev Checked (α : Type) := Except ConfigError α

/-- A check in its order: its code where it fails. -/
def require (ok : Bool) (e : ConfigError) : Checked Unit := if ok then .ok () else .error e

/-- A field whose staged code must name a value. -/
def need {α : Type} (x : Option α) (e : ConfigError) : Checked α :=
  match x with
  | some a => .ok a
  | none => .error e

/-! ### Binding rows (R6) -/

/-- The rows that may carry a payload: 24, 27 and 28 to 31 (R6). -/
def payloadRow (r : Fin 32) : Bool := r == 24 || r == 27 || decide (28 ≤ r.val)

/-- A staged binding row. -/
def checkBinding (v : Vector Byte 48) (r : Fin 32) : Checked BindingRow := do
  let event := stWord16 v 0
  let scope := scopeOf ((stByte v 2).getLsbD 0)
  let priority := stByte v 3
  let flag := (stByte v 4).getLsbD 0
  require (decide (event.toNat ≤ 4095)) .bindEvent
  require (scope == .here || (decide (1 ≤ priority.toNat) && decide (priority.toNat ≤ 7)))
    .bindPriority
  require (!flag || payloadRow r) .bindPayload
  return { event := event.setWidth 12, scope := scope, priority := priority, payloadFlag := flag }

/-! ### Subscription entries (R23 to R26) -/

/-- The staged origin filter. -/
def stFilter (v : Vector Byte 48) : Option OriginFilter :=
  if stByte v 2 = 0 then some .any
  else if stByte v 2 = 1 then some .inside
  else if stByte v 2 = 2 then some .line
  else if stByte v 2 = 3 ∧ (stByte v 3).toNat ≤ 63 then some (.station ((stByte v 3).setWidth 6))
  else none

/-- The staged policy. -/
def stPolicy (v : Vector Byte 48) : Option Policy :=
  if stByte v 4 = 0 then some .every else if stByte v 4 = 1 then some .once else none

/-- A staged event descriptor, absent or with its event number and priority in range (R25, R26). -/
def checkDesc (v : Vector Byte 48) (i : Nat) : Checked (Option EventDesc) :=
  match stDesc v i with
  | none => .ok none
  | some (event, scope, priority) => do
    require (decide (1 ≤ event.toNat) && decide (event.toNat ≤ 4095)) .subEndEvent
    require (scope == .here || priority != 0) .subEndEvent
    return some { event := event.setWidth 12, scope := scope, priority := priority }

/-- Check 10 of R25: the outer spacing holds a burst. -/
def outerOk (k m s t w : Nat) : Bool :=
  decide (m ≤ 1) || (if 1 < k then decide (k * s ≤ t) else decide (w < t))

/-- A staged DRIVE (R25). -/
def checkDrive (v : Vector Byte 48) : Checked Action := do
  let mask := stByte v 8
  let width := stWord32 v 10
  let delay := stWord32 v 14
  let k := stByte v 18
  let m := stByte v 19
  let s := stWord32 v 20
  let t := stWord32 v 24
  let tag := stByte v 28
  require (decide (tag.toNat ≤ 15)) .subRange
  require (decide (1 ≤ k.toNat) && decide (1 ≤ m.toNat)) .subRange
  require (decide (width.toNat < 2 ^ 24) && decide (s.toNat < 2 ^ 24)) .subRange
  require (decide (0 < width.toNat) || mask != 0) .driveNothing
  require (decide (k.toNat ≤ 1) || decide (width.toNat < s.toNat)) .driveWidth
  require (outerOk k.toNat m.toNat s.toNat t.toNat width.toNat) .driveOuter
  let endEvent ← checkDesc v 29
  return .drive
    { mask := mask, onLevels := stByte v 9, width := width.setWidth 24, delay := delay,
      innerCount := k, innerSpacing := s.setWidth 24, outerCount := m, outerSpacing := t,
      tag := tag.setWidth 4, endEvent := endEvent }

/-- A staged position source. -/
def stSource (b : Byte) : Option PosSource :=
  if b = 0 then some .incremental else if b = 1 then some .absolute else none

/-- A staged LATCH (R26). -/
def checkLatch (v : Vector Byte 48) : Checked Action := do
  let source ← need (stSource (stByte v 8)) .subRange
  let slot ← need (ixOf 8 (stByte v 9).toNat) .subRange
  let publish ← checkDesc v 10
  return .latch source slot publish

/-- A staged edge kind. -/
def stEdge (b : Byte) : Option EdgeSelect :=
  if b = 0 then some .rise else if b = 1 then some .fall else if b = 2 then some .either else none

/-- A staged MEASURE (R26). -/
def checkMeasure (v : Vector Byte 48) : Checked Action := do
  let channel ← need (ixOf 8 (stByte v 8).toNat) .subRange
  let edge ← need (stEdge (stByte v 9)) .subRange
  require (decide ((stByte v 10).toNat ≤ 15)) .subRange
  let slot ← need (ixOf 8 (stByte v 11).toNat) .subRange
  return .measure channel edge ((stByte v 10).setWidth 4) slot

/-- A staged CANCEL (R26). -/
def checkCancel (v : Vector Byte 48) : Checked Action := do
  require (decide ((stByte v 8).toNat ≤ 15)) .subRange
  return .cancel ((stByte v 8).setWidth 4)

/-- A staged COMPARE (R26). -/
def checkCompare (v : Vector Byte 48) : Checked Action := do
  let k ← need (ixOf 2 (stByte v 8).toNat) .subRange
  return .compare k

/-- The staged action by its kind; a kind that is none of the seven fails check 4 (R24). -/
def checkAction (v : Vector Byte 48) : Checked Action :=
  if stByte v 5 = 0 then checkDrive v
  else if stByte v 5 = 1 then checkCancel v
  else if stByte v 5 = 2 then checkLatch v
  else if stByte v 5 = 3 then .ok .capture
  else if stByte v 5 = 4 then checkCompare v
  else if stByte v 5 = 5 then checkMeasure v
  else if stByte v 5 = 6 then .ok (.preset (stWord32 v 8))
  else .error .subKind

/-- A staged subscription entry (R23 to R26). -/
def checkSub (v : Vector Byte 48) : Checked SubEntry :=
  if stWord16 v 0 = 0 then .ok .empty
  else do
    require (decide ((stWord16 v 0).toNat ≤ 4095)) .subEvent
    let filter ← need (stFilter v) .subFilter
    let policy ← need (stPolicy v) .subPolicy
    let action ← checkAction v
    return { event := (stWord16 v 0).setWidth 12, filter := filter, policy := policy,
             action := action, armed := true }

/-! ### Comparators (R169) -/

/-- The staged mode of a comparator. -/
def stCmpMode (b : Byte) : Option CmpMode :=
  if b = 0 then some .off
  else if b = 1 then some .once
  else if b = 2 then some .change
  else if b = 3 then some .every
  else none

/-- A staged latch slot: 0xFF is absent. -/
def stSlot (b : Byte) : Checked (Option (Fin 8)) :=
  if b = 0xFF then .ok none
  else do
    let i ← need (ixOf 8 b.toNat) .cmpRange
    return some i

/-- A staged comparator configuration. -/
def checkCmp (v : Vector Byte 48) : Checked CmpConfig := do
  let source ← need (stSource (stByte v 0)) .cmpRange
  let mode ← need (stCmpMode (stByte v 1)) .cmpRange
  require (decide (1 ≤ (stByte v 2).toNat) && decide ((stByte v 2).toNat ≤ 32)) .cmpRange
  let trueSlot ← stSlot (stByte v 12)
  let falseSlot ← stSlot (stByte v 13)
  return { source := source, origin := stWord32 v 4, margin := stWord32 v 8,
           maskBits := stByte v 2, strict := (stByte v 3).getLsbD 0, mode := mode,
           trueSlot := trueSlot, falseSlot := falseSlot }

/-! ### Channels (R137) -/

/-- A staged channel configuration. -/
def checkChan (v : Vector Byte 48) : Checked ChanConfig := do
  require (decide ((stByte v 1).toNat ≤ 63)) .chanRange
  require (stByte v 3 != 0) .chanRange
  require (stByte v 4 != 0) .chanRange
  return { direction := if (stByte v 0).getLsbD 0 then .output else .input,
           filterMicros := stByte v 1, rest := (stByte v 2).getLsbD 0, checkDelay := stByte v 3,
           holdOffMillis := stByte v 4, autoRestore := (stByte v 5).getLsbD 0 }

/-! ### The position configuration (R153) -/

/-- The staged position mode. -/
def stPosMode (b : Byte) : Option PosMode :=
  if b = 0 then some .off
  else if b = 1 then some .edge
  else if b = 2 then some .quadrature
  else if b = 3 then some .updown
  else none

/-- A staged sign, a signed byte. -/
def stSign (b : Byte) : Option Sign :=
  if b = 0xFF then some .minus else if b = 0 then some .zero else if b = 1 then some .plus else none

/-- The staged coding. -/
def stCoding (b : Byte) : Option Coding :=
  if b = 0 then some .binary else if b = 1 then some .gray else none

/-- The staged encoder clock. -/
def stClock (b : Byte) : Option EncClock :=
  if b = 0 then some .mhz1
  else if b = 1 then some .khz500
  else if b = 2 then some .khz250
  else if b = 3 then some .khz125
  else none

/-- The staged check of the encoder's word. -/
def stEncCheck (b : Byte) : Option EncCheck :=
  if b = 0 then some .none else if b = 1 then some .high else if b = 2 then some .low else none

/-- A staged position configuration. -/
def checkPos (v : Vector Byte 48) : Checked PosConfig := do
  let mode ← need (stPosMode (stByte v 0)) .posRange
  let signA ← need (stSign (stByte v 1)) .posRange
  let signB ← need (stSign (stByte v 2)) .posRange
  let n := stByte v 3
  let valid := stByte v 4
  require (decide (8 ≤ n.toNat) && decide (n.toNat ≤ 32)) .posRange
  require (decide (1 ≤ valid.toNat) && decide (valid.toNat ≤ n.toNat)) .posRange
  let coding ← need (stCoding (stByte v 5)) .posRange
  let clock ← need (stClock (stByte v 6)) .posRange
  require (stByte v 7 != 0) .posRange
  let check ← need (stEncCheck (stByte v 8)) .posRange
  return { mode := mode, signA := signA, signB := signB,
           enc := { totalBits := n, validBits := valid, coding := coding, clock := clock,
                    recoveryMicros := stByte v 7, check := check } }

/-! ### The station configuration (R187) -/

/-- The station configuration as staged, without checks. -/
def stagedStation (v : Vector Byte 48) : StationConfig :=
  { station := stByte v 0, syncBase := stByte v 1, syncMult := stByte v 2, limitL := stWord16 v 3,
    limitS := stWord16 v 5, lineRate := stByte v 7, lineDelay := stByte v 8 }

/-! ### What an accepted STORE does -/

/-- The station configuration written. -/
def State.storeStation (s : State) : State :=
  s.setStation { s.station with cfg := stagedStation s.host.staging }

/-- A binding row written (R6). -/
def State.storeBinding (s : State) (r : Fin 32) (b : BindingRow) : State :=
  s.setDisp { s.disp with bindings := updVec s.disp.bindings r fun _ => b }

/-- A subscription entry written (R23). -/
def State.storeSub (s : State) (i : Fin 64) (e : SubEntry) : State :=
  s.setDisp { s.disp with subs := updVec s.disp.subs i fun _ => e }

/-- A comparator's configuration written, its runtime state cleared (R169). -/
def State.storeCmp (s : State) (k : Fin 2) (g : CmpConfig) : State :=
  (s.setMeas { s.meas with cmpCfg := updVec s.meas.cmpCfg k fun _ => g }).clearCmp k

/-- A channel's configuration written, taking effect at once (R138). -/
def State.storeChan (s : State) (c : Fin 8) (g : ChanConfig) : State :=
  s.setChan c fun ch => ch.configure g

/-- The position configuration written: a new mode clears the counting side (R154). -/
def State.storePos (s : State) (g : PosConfig) : State :=
  if g.mode = s.pos.cfg.mode then s.setPos { s.pos with cfg := g }
  else
    s.setPos
      { s.pos with
        cfg := g, cntA := 0, cntB := 0, offset := 0, quadErrors := 0,
        pair0 := s.chans[0].filtered, pair1 := s.chans[1].filtered }

/-- A checked record is written and the STORE recorded as taken, or the STORE refused with the code
(R187). -/
def State.storeChecked {α : Type} (s : State) (r : Checked α) (f : State → α → State) : State :=
  match r with
  | .ok a => ((f s a).clearError).taken 0x40
  | .error e => s.checkFailed 0x40 e

/-- The record of a table at an index, or TABLE_INDEX (R187). -/
def tableIx (n i : Nat) : Checked (Fin n) := need (ixOf n i) .tableIndex

/-- STORE of binding row `i`. -/
def State.storeBindingAt (s : State) (i : Nat) : State :=
  match tableIx 32 i with
  | .ok r => s.storeChecked (checkBinding s.host.staging r) fun s b => s.storeBinding r b
  | .error e => s.checkFailed 0x40 e

/-- STORE of subscription entry `i`. -/
def State.storeSubAt (s : State) (i : Nat) : State :=
  match tableIx 64 i with
  | .ok k => s.storeChecked (checkSub s.host.staging) fun s e => s.storeSub k e
  | .error e => s.checkFailed 0x40 e

/-- STORE of comparator `i`. -/
def State.storeCmpAt (s : State) (i : Nat) : State :=
  match tableIx 2 i with
  | .ok k => s.storeChecked (checkCmp s.host.staging) fun s g => s.storeCmp k g
  | .error e => s.checkFailed 0x40 e

/-- STORE of channel `i`. -/
def State.storeChanAt (s : State) (i : Nat) : State :=
  match tableIx 8 i with
  | .ok c => s.storeChecked (checkChan s.host.staging) fun s g => s.storeChan c g
  | .error e => s.checkFailed 0x40 e

/-- STORE of the position configuration, index 0 alone. -/
def State.storePosAt (s : State) (i : Nat) : State :=
  match tableIx 1 i with
  | .ok _ => s.storeChecked (checkPos s.host.staging) State.storePos
  | .error e => s.checkFailed 0x40 e

/-- STORE of the station configuration, index 0 alone. -/
def State.storeStationAt (s : State) (i : Nat) : State :=
  match tableIx 1 i with
  | .ok _ => s.storeChecked (.ok ()) fun s _ => s.storeStation
  | .error e => s.checkFailed 0x40 e

/-- The table that the table select names: bits 3 to 0 (R182, R186). -/
def State.selectedTable (s : State) : Nat := (s.host.tableSelect.extractLsb' 0 4).toNat

/-- A configuration table is selected and the station is in CONFIG (R187). -/
def State.tableWritable (s : State) : Bool := s.inConfig && decide (s.selectedTable ≤ 5)

/-- The STORE of a writable table (R187). -/
def State.storeRecord (s : State) : State :=
  let i := s.host.tableIndex.toNat
  if s.selectedTable = 0 then s.storeStationAt i
  else if s.selectedTable = 1 then s.storeBindingAt i
  else if s.selectedTable = 2 then s.storeSubAt i
  else if s.selectedTable = 3 then s.storeCmpAt i
  else if s.selectedTable = 4 then s.storeChanAt i
  else s.storePosAt i

end Sys2Proof.Machine
end

