-- ==== Sys2Proof/Machine/TableView.lean ====
section
/-! DEFINITION. The load of the staging area: every record of the table window in the layout of R196,
as it stands at the instant of the copy (R186). -/

namespace Sys2Proof.Machine

/-! ### Pieces -/

/-- `n` bytes that the layout does not name. -/
def gapBytes (n : Nat) : List Byte := List.replicate n 0

/-- An optional time: its value bytes, 0 when absent (R196). -/
def optTime (t : Option LineTime) : List Byte := leBytes 6 (t.getD 0)

/-- A small number as a byte. -/
def natByte (n : Nat) : Byte := BitVec.ofNat 8 n

/-- The bit of an edge kind: 0 RISE, 1 FALL. -/
def EdgeKind.isFall : EdgeKind → Bool
  | .rise => false
  | .fall => true

/-- The code of a position source. -/
def PosSource.code : PosSource → Byte
  | .incremental => 0
  | .absolute => 1

/-! ### Configuration records -/

/-- The station configuration. -/
def StationConfig.bytes (g : StationConfig) : List Byte :=
  [g.station, g.syncBase, g.syncMult] ++ leBytes 2 g.limitL ++ leBytes 2 g.limitS ++
    [g.lineRate, g.lineDelay]

/-- A binding row. -/
def BindingRow.bytes (b : BindingRow) : List Byte :=
  leBytes 2 (b.event.setWidth 16) ++
    [packBits [b.scope == .line], b.priority, packBits [b.payloadFlag]]

/-- Filter and station; the station byte is that of STATION alone (log 17). -/
def OriginFilter.bytes : OriginFilter → List Byte
  | .any => [0, 0]
  | .inside => [1, 0]
  | .line => [2, 0]
  | .station n => [3, n.setWidth 8]

/-- The code of a policy. -/
def Policy.code : Policy → Byte
  | .every => 0
  | .once => 1

/-- The code of an action kind. -/
def Action.code : Action → Byte
  | .drive _ => 0
  | .cancel _ => 1
  | .latch _ _ _ => 2
  | .capture => 3
  | .compare _ => 4
  | .measure _ _ _ _ => 5
  | .preset _ => 6

/-- The code of a MEASURE's edge kind. -/
def EdgeSelect.code : EdgeSelect → Byte
  | .rise => 0
  | .fall => 1
  | .either => 2

/-- The parameter bytes of a DRIVE, from 8. -/
def DriveParams.bytes (p : DriveParams) : List Byte :=
  [p.mask, p.onLevels] ++ leBytes 4 (p.width.setWidth 32) ++ leBytes 4 p.delay ++
    [p.innerCount, p.outerCount] ++ leBytes 4 (p.innerSpacing.setWidth 32) ++
    leBytes 4 p.outerSpacing ++ [p.tag.setWidth 8] ++ descBytes p.endEvent

/-- The parameter bytes of an action, from 8. -/
def Action.bytes : Action → List Byte
  | .drive p => p.bytes
  | .cancel tag => [tag.setWidth 8]
  | .latch src slot publish => [src.code, natByte slot.val] ++ descBytes publish
  | .capture => []
  | .compare k => [natByte k.val]
  | .measure c k i slot => [natByte c.val, k.code, i.setWidth 8, natByte slot.val]
  | .preset v => leBytes 4 v

/-- A subscription entry. -/
def SubEntry.bytes (e : SubEntry) : List Byte :=
  leBytes 2 (e.event.setWidth 16) ++ e.filter.bytes ++
    [e.policy.code, e.action.code, packBits [e.armed], 0] ++ e.action.bytes

/-- The code of a comparator's mode. -/
def CmpMode.code : CmpMode → Byte
  | .off => 0
  | .once => 1
  | .change => 2
  | .every => 3

/-- An optional latch slot: 0xFF when absent. -/
def slotByte : Option (Fin 8) → Byte
  | none => 0xFF
  | some i => natByte i.val

/-- A comparator configuration. -/
def CmpConfig.bytes (g : CmpConfig) : List Byte :=
  [g.source.code, g.mode.code, g.maskBits, packBits [g.strict]] ++ leBytes 4 g.origin ++
    leBytes 4 g.margin ++ [slotByte g.trueSlot, slotByte g.falseSlot]

/-- The direction is OUT. -/
def Direction.isOut : Direction → Bool
  | .input => false
  | .output => true

/-- A channel configuration. -/
def ChanConfig.bytes (g : ChanConfig) : List Byte :=
  [packBits [g.direction.isOut], g.filterMicros, packBits [g.rest], g.checkDelay, g.holdOffMillis,
    packBits [g.autoRestore]]

/-- The code of a position mode. -/
def PosMode.code : PosMode → Byte
  | .off => 0
  | .edge => 1
  | .quadrature => 2
  | .updown => 3

/-- A sign as a signed byte. -/
def Sign.code : Sign → Byte
  | .minus => 0xFF
  | .zero => 0
  | .plus => 1

/-- The code of a coding. -/
def Coding.code : Coding → Byte
  | .binary => 0
  | .gray => 1

/-- The code of an encoder clock. -/
def EncClock.code : EncClock → Byte
  | .mhz1 => 0
  | .khz500 => 1
  | .khz250 => 2
  | .khz125 => 3

/-- The code of the check of the encoder's word. -/
def EncCheck.code : EncCheck → Byte
  | .none => 0
  | .high => 1
  | .low => 2

/-- The position configuration. -/
def PosConfig.bytes (g : PosConfig) : List Byte :=
  [g.mode.code, g.signA.code, g.signB.code, g.enc.totalBits, g.enc.validBits, g.enc.coding.code,
    g.enc.clock.code, g.enc.recoveryMicros, g.enc.check.code]

/-! ### Views and slots -/

/-- The peer view, index 0. -/
def TimeUnit.viewBytes (t : TimeUnit) : List Byte :=
  [natByte t.peers.length, packBits [t.lastInStep, t.alone, t.prevEdge.isSome],
      natByte t.outCount, natByte t.inCount, t.syncCount, 0] ++
    optTime t.prevEdge ++ leBytes 6 t.lastMedian ++ leBytes 2 (BitVec.ofInt 16 t.slew)

/-- The offset's code in bits 2 and 1 of a peer record. -/
def PeerOffset.code : PeerOffset → BitVec 2
  | .absent => 0
  | .fresh _ => 1
  | .used _ => 2

/-- The offset's value; 0 when absent. -/
def PeerOffset.value : PeerOffset → BitVec 48
  | .absent => 0
  | .fresh v => v
  | .used v => v

/-- A peer record. -/
def PeerRecord.bytes (r : PeerRecord) : List Byte :=
  [r.station.setWidth 8, (1#1 ++ 0#4 ++ r.offset.code ++ flagBit r.synced : BitVec 8), r.seq,
      natByte r.age] ++
    leBytes 6 r.stamp ++ leBytes 6 r.offset.value

/-- A schedule entry. -/
def SchedEntry.bytes (e : SchedEntry) : List Byte :=
  [(0#2 ++ e.causeGen ++ flagBit e.causeRestamped ++ flagBit e.late ++ flagBit (e.phase == .off) ++
        1#1 : BitVec 8),
      e.mask, e.onLevels, e.tag.setWidth 8, natByte e.originEntry.val, e.innerRem, e.innerCount,
      e.outerRem, e.suppressed] ++
    leBytes 2 (e.event.setWidth 16) ++ descBytes e.endEvent ++ leBytes 6 e.due ++
    leBytes 6 e.burstStart ++ leBytes 6 e.trainStart ++ leBytes 3 e.width ++
    leBytes 3 e.innerSpacing ++ leBytes 4 e.outerSpacing ++ leBytes 4 e.seq

/-- A latch slot. -/
def LatchSlot.bytes (l : LatchSlot) : List Byte :=
  [packBits [l.isNew, l.overrun, l.source == .absolute, l.stamp.isSome], 0, 0, 0] ++
    leBytes 4 l.value ++ optTime l.stamp

/-- The kind bit of an optional edge; 0 when absent. -/
def optFall (e : Option Edge) : Bool :=
  match e with
  | some e => e.kind.isFall
  | none => false

/-- The stamp of an optional edge. -/
def optStamp (e : Option Edge) : Option LineTime := e.map fun e => e.stamp

/-- A measurement slot. -/
def MeasSlot.bytes (m : MeasSlot) : List Byte :=
  [packBits
        [m.valid, m.saturated, m.restamped, m.occStamp.isSome, m.edge.isSome, optFall m.edge],
      0, 0, 0] ++
    leBytes 4 m.value ++ optTime m.occStamp ++ optTime (optStamp m.edge)

/-- The channel status. -/
def Channel.statusBytes (c : Channel) : List Byte :=
  [packBits [c.cfg.direction.isOut], outStateCode c.out,
      packBits
        [c.lastCmd, c.driven, c.sensed, c.filtered, c.fifo.head?.isSome, optFall c.fifo.head?],
      c.rises, c.falls, natByte c.fifo.length] ++
    optTime (optStamp c.fifo.head?)

/-- The start time of the read in flight, absent in IDLE. -/
def PositionUnit.startTime (p : PositionUnit) : Option LineTime := p.record.map fun r => r.start

/-- The position view. -/
def PositionUnit.viewBytes (p : PositionUnit) : List Byte :=
  leBytes 4 p.cntA ++ leBytes 4 p.cntB ++ leBytes 4 p.offset ++ leBytes 4 p.incremental ++
    [packBits [p.pair0, p.pair1], p.quadErrors, p.reader.code,
      packBits [p.startTime.isSome, p.absStamp.isSome]] ++
    optTime p.startTime ++ leBytes 4 p.absPos ++ optTime p.absStamp

/-- The code of a comparator's last outcome. -/
def outcomeCode : Option Bool → Byte
  | none => 0
  | some true => 1
  | some false => 2

/-- The comparator status. -/
def CmpRuntime.bytes (r : CmpRuntime) : List Byte := [outcomeCode r.last, packBits [r.spent]]

/-! ### The load (R186) -/

/-- A record of a list, with its bytes; nothing beyond the records present. -/
def listBytes {α : Type} (l : List α) (i : Nat) (f : α → List Byte) : List Byte :=
  match l[i]? with
  | some a => f a
  | none => []

/-- The record of a table at an index, in bytes. What the record does not hold, an index outside the
range and a select value outside 0 to 12 give no bytes, and so zeros (R186, R196). -/
def State.recordBytes (s : State) (table index : Nat) : List Byte :=
  match table, index with
  | 0, 0 => s.station.cfg.bytes
  | 1, i => listBytes s.disp.bindings.toList i BindingRow.bytes
  | 2, i => listBytes s.disp.subs.toList i SubEntry.bytes
  | 3, i => listBytes s.meas.cmpCfg.toList i CmpConfig.bytes
  | 4, i => listBytes s.chans.toList i fun c => c.cfg.bytes
  | 5, 0 => s.pos.cfg.bytes
  | 6, 0 => s.time.viewBytes
  | 6, i + 1 => listBytes s.time.peers i PeerRecord.bytes
  | 7, 0 => [natByte s.sched.entries.length, 0, 0, 0] ++ leBytes 4 s.sched.counter
  | 7, i + 1 => listBytes s.sched.entries i SchedEntry.bytes
  | 8, i => listBytes s.meas.latches.toList i LatchSlot.bytes
  | 9, i => listBytes s.meas.slots.toList i MeasSlot.bytes
  | 10, i => listBytes s.chans.toList i Channel.statusBytes
  | 11, 0 => s.pos.viewBytes
  | 12, i => listBytes s.meas.cmpRun.toList i CmpRuntime.bytes
  | _, _ => []

/-- The flags of a latch slot cleared by the load of it (R177, R186). -/
def State.readLatch (s : State) (index : Nat) : State :=
  match ixOf 8 index with
  | some i => s.setMeas { s.meas with latches := updVec s.meas.latches i LatchSlot.readByHost }
  | none => s

/-- The side effect of a load: the latch table alone has one (R186). -/
def State.loadEffect (s : State) (table index : Nat) : State :=
  if table = 8 then s.readLatch index else s

end Sys2Proof.Machine
end

