-- ==== Sys2Proof/Machine/HostPort.lean ====
section
/-! DEFINITION. The host port (chapter 11): the accesses of the register window, the eight host
commands, the table window, the time snapshot and the report window. -/

namespace Sys2Proof.Machine

/-! ### Transactions (R181) -/

/-- The direction that a command byte gives: bit 7 is set for a read and clear for a write (R181). -/
def commandDir (byte : Byte) : Transfer := if byte.getLsbD 7 then .read else .write

/-- CSN has fallen and the command byte been read: bits 6 to 0 are the start address, and SDO has been
driven low. A transaction that was open has ended before it, and with it its capture (R181, R190). -/
def HostUnit.beginTransaction (h : HostUnit) (byte : Byte) : HostUnit :=
  { h with
    transaction := some { dir := commandDir byte, next := byte.setWidth 7 }, captureLive := false,
    sdo := some 0 }

/-- The data byte at an address is transferred: the next is at the next address, 127 followed by 0
(R181). -/
def HostUnit.moveOn (h : HostUnit) (dir : Transfer) (address : BitVec 7) (sdo : Byte) : HostUnit :=
  { h with transaction := some { dir := dir, next := address + 1 }, sdo := some sdo }

/-- The open transaction reads, and its next data byte is at an address. -/
def HostUnit.readsAt (h : HostUnit) (address : BitVec 7) : Bool :=
  h.transaction == some { dir := .read, next := address }

/-- The host port as a data byte is written, in the open transaction where it stands at that address, or in
one begun for it, CSN having risen and fallen (log 8): SDO is driven low and no capture stands (R181,
R190). -/
def HostUnit.writing (h : HostUnit) (address : BitVec 7) : HostUnit :=
  { h.moveOn .write address 0 with captureLive := false }

/-- The host port as a data byte is loaded for output, in the open transaction where it stands at that
address, or in one begun for it, whose beginning ends a capture (R181, R190, log 8). -/
def HostUnit.reading (h : HostUnit) (address : BitVec 7) (byte : Byte) : HostUnit :=
  { h.moveOn .read address byte with captureLive := h.captureLive && h.readsAt address }

/-- A byte is written by the host at an address. -/
def State.hostWrite (s : State) (address : BitVec 7) : State := s.setHost (s.host.writing address)

/-- CSN rises: the transaction is over and SDO released (R181). -/
def HostUnit.endTransaction (h : HostUnit) : HostUnit :=
  { h with transaction := none, captureLive := false, sdo := none }

/-- TRANSACTION_END (R181). -/
def execTransactionEnd (s : State) : Result := act s fun s => s.setHost s.host.endTransaction

/-! ### Refused writes (R183, R187) -/

/-- A refused register or table write: ACCESS_REFUSED with the address written (R184). -/
def State.accessRefused (s : State) (address : Byte) : State :=
  s.record 0x80 .accessRefused address

/-! ### The table window (R186, R187) -/

/-- The staging area as a load leaves it (R186). -/
def State.loaded (s : State) (index : Byte) : Vector Byte 48 :=
  stagingOf (s.recordBytes s.selectedTable index.toNat)

/-- A write to the table index: the index kept and the staging area loaded (R186). -/
def State.writeIndex (s : State) (index : Byte) : State :=
  (s.setHost { s.host with tableIndex := index, staging := s.loaded index }).loadEffect
    s.selectedTable index.toNat

/-- TABLE_INDEX (R186). -/
def execTableIndex (value : Byte) (s : State) : Result :=
  act s fun s => (s.hostWrite 0x2A#7).writeIndex value

/-- The offset in the staging area of a byte of the table data: bit 7 of the table select is the page
(R186). -/
def State.stagingOffset (s : State) (offset : Nat) : Nat :=
  if s.host.tableSelect.getLsbD 7 then 24 + offset else offset

/-- One byte of the staging area written. -/
def State.writeStaging (s : State) (i : Nat) (value : Byte) : State :=
  s.setHost { s.host with staging := s.host.staging.setIfInBounds i value }

/-- A write to the table data at 0x30 + `offset` (R187). -/
def State.writeData (s : State) (offset : Nat) (value : Byte) : State :=
  if s.tableWritable then s.writeStaging (s.stagingOffset offset) value
  else s.accessRefused (0x30 + natByte offset)

/-- TABLE_DATA (R187). The register has 24 bytes: another offset names none. -/
def execTableData (offset : Nat) (value : Byte) (s : State) : Result :=
  actIf (decide (offset < 24)) s fun s =>
    (s.hostWrite (BitVec.ofNat 7 (0x30 + offset))).writeData offset value

/-- A write to the STORE byte (R187). With a select value of 13 to 15, which is neither a configuration
table nor a view or slot table, the rule says that the STORE is not taken and gives no outcome: that it
records ACCESS_REFUSED too is the model's choice (log 34). -/
def State.store (s : State) : State :=
  if s.tableWritable then s.storeRecord else s.record 0x40 .accessRefused 0x2B

/-- STORE: a write of any value (R187). -/
def execStore (_value : Byte) (s : State) : Result := act s fun s => (s.hostWrite 0x2B#7).store

/-! ### The time snapshot (R70) -/

/-- Byte 0 of the time snapshot is read: the line time captured, its low byte returned (R70). -/
def State.takeSnapshot (s : State) : State :=
  s.setHost
    { s.host.reading 0x10 (s.time.lineTime.setWidth 8) with snapshot := s.time.lineTime }

/-- TIME_SNAPSHOT (R70). -/
def execTimeSnapshot (s : State) : Result := act s State.takeSnapshot

/-! ### The report window (R190, R195) -/

/-- The reason of EVENT_LOST in parameter B. -/
def LostReason.code : LostReason → Byte
  | .queueFull => 0
  | .abandoned => 1
  | .leaveTimeout => 2

/-- The origin of DISPATCH_OVERFLOW as a byte. -/
def Origin.code : Origin → Byte
  | .row r => natByte r.val
  | .station n => 64 + n.setWidth 8
  | .hostPort => 128
  | .entry e => 192 + natByte e.val

/-- The cause of PEER_LOST. -/
def PeerLossCause.code : PeerLossCause → Value32
  | .aged => 0
  | .left => 1
  | .replaced => 2

/-- The cause of STATE_CHANGE. -/
def StateCause.code : StateCause → Value32
  | .join => 0
  | .stepped => 1
  | .founded => 2
  | .leave => 3
  | .left => 4
  | .leaveAbandoned => 5
  | .leaveTimeout => 6
  | .restart => 7

/-- The cause of OUTPUT_RESTORED. -/
def RestoreCause.code : RestoreCause → Value32
  | .auto => 0
  | .host => 1

/-- Parameter A of a record (R195). -/
def ReportBody.paramA : ReportBody → Value32
  | .eventLost e _ => e.setWidth 32
  | .dispatchOverflow e _ => e.setWidth 32
  | .chainLimit e _ => e.setWidth 32
  | .scheduleFull _ e => e.setWidth 32
  | .actionLate d _ => d
  | .cancelled _ e i o x => x ++ o ++ i ++ natByte e.val
  | .scheduleFlushed n => BitVec.ofNat 32 n
  | .captureOverrun r _ => r.code.setWidth 32
  | .encoderFault w _ => w
  | .outputFault _ l => if l then 1 else 0
  | .outputRestored _ c => c.code
  | .syncState _ m => m
  | .stateChange _ c => c.code
  | .peerJoined _ y => if y then 1 else 0
  | .peerLost _ c => c.code
  | .peerTableFull _ => 0
  | .stationClash q => q.setWidth 32
  | .rxErrors n => BitVec.ofNat 32 n
  | .lineStuck => 0
  | .lineFree t => t
  | .queueOverflow n _ _ => BitVec.ofNat 32 n

/-- Parameter B of a record (R195). -/
def ReportBody.paramB : ReportBody → Byte
  | .eventLost _ r => r.code
  | .dispatchOverflow _ o => o.code
  | .chainLimit _ i => natByte i.val
  | .scheduleFull i _ => natByte i.val
  | .actionLate _ i => natByte i.val
  | .cancelled t _ _ _ _ => t.setWidth 8
  | .scheduleFlushed _ => 0
  | .captureOverrun _ i => natByte i.val
  | .encoderFault _ i => natByte i.val
  | .outputFault c _ => natByte c.val
  | .outputRestored c _ => natByte c.val
  | .syncState m _ => m.code
  | .stateChange m _ => m.code
  | .peerJoined n _ => n.setWidth 8
  | .peerLost n _ => n.setWidth 8
  | .peerTableFull n => n.setWidth 8
  | .stationClash _ => 0
  | .rxErrors _ => 0
  | .lineStuck => 0
  | .lineFree _ => 0
  | .queueOverflow _ k _ => k

/-- Byte 0 of a captured record: kind value, and bits 34 to 32 of the line time. -/
def Report.byte0 (r : Report) : Byte := r.time.extractLsb' 32 3 ++ r.body.code.extractLsb' 0 5

/-- The eight bytes of a captured record (R195). -/
def Report.bytes (r : Report) : Vector Byte 8 :=
  let a := r.body.paramA
  #v[r.byte0, r.time.extractLsb' 16 8, r.time.extractLsb' 24 8, r.body.paramB, a.extractLsb' 0 8,
    a.extractLsb' 8 8, a.extractLsb' 16 8, a.extractLsb' 24 8]

/-- The capture of an empty queue. -/
def emptyCapture : Vector Byte 8 := Vector.replicate 8 0

/-- An overflow record is closed as it is captured at the head (R189). -/
def Report.close (r : Report) : Report :=
  match r.body with
  | .queueOverflow n k _ => { r with body := .queueOverflow n k false }
  | _ => r

/-- The capture of the head, or of nothing (R190). -/
def captureOf (q : List Report) : Vector Byte 8 :=
  match q with
  | [] => emptyCapture
  | r :: _ => r.bytes

/-- The queue once its head has been captured (R189). -/
def closeHead (q : List Report) : List Report :=
  match q with
  | [] => []
  | r :: q => r.close :: q

/-- Byte 0 of the report window is loaded for a read: the head captured (R190). -/
def State.captureHead (s : State) : State :=
  let v := captureOf s.host.reports
  s.setHost
    { s.host.reading 0x18 v[0] with
      capture := v, captureLive := !s.host.reports.isEmpty, reports := closeHead s.host.reports }

/-- REPORT_WINDOW (R190). -/
def execReportWindow (s : State) : Result := act s State.captureHead

/-- The open transaction reads on to byte 7: it stands behind byte 0 of the report window, and the plain
reads of the bytes up to byte 7, which have no effect but on SDO, may have been left out (log 8). -/
def HostUnit.readsOnToByte7 (h : HostUnit) : Bool :=
  match h.transaction with
  | some t => t.dir == .read && decide (0x19 ≤ t.next.toNat) && decide (t.next.toNat ≤ 0x20)
  | none => false

/-- The host port with byte 7 of the report window read to its eighth bit (R181). -/
def HostUnit.readByte7 (h : HostUnit) : HostUnit :=
  if h.readsOnToByte7 then h.moveOn .read 0x1F h.capture[7] else h.reading 0x1F h.capture[7]

/-- Byte 7 of the report window is read to its eighth bit: the head removed where this transaction
captured it (R190). -/
def State.removeHead (s : State) : State :=
  let h := s.host.readByte7
  s.setHost
    (if h.captureLive then { h with reports := s.host.reports.tail, captureLive := false } else h)

/-- REPORT_HEAD_REMOVE (R190). -/
def execReportHeadRemove (s : State) : Result := act s State.removeHead

/-! ### The commands (R184, R185) -/

/-- JOIN: a write of 1 to the command register (R95, R96). -/
def execJoin (s : State) : Result := act s fun s => (s.hostWrite 0x28#7).join

/-- LEAVE: a write of 2 (R99). -/
def execLeave (s : State) : Result := act s fun s => (s.hostWrite 0x28#7).leave

/-- RESTART: a write of 3 (R104). -/
def execRestart (s : State) : Result := act s fun s => (s.hostWrite 0x28#7).restart

/-- REARM_SUB: a write of 4 (R30). -/
def execRearmSub (s : State) : Result := act s fun s => (s.hostWrite 0x28#7).rearmSub

/-- REARM_CMP: a write of 5 (R174). -/
def execRearmCmp (s : State) : Result := act s fun s => (s.hostWrite 0x28#7).rearmCmp

/-- RESTORE: a write of 6 (R149). -/
def execRestore (s : State) : Result := act s fun s => (s.hostWrite 0x28#7).restore

/-- INJECT: a write of 7 (R10). -/
def execInject (s : State) : Result := act s fun s => (s.hostWrite 0x28#7).inject

/-- A write to the command register: the value selects the command, and one that names none gives
BAD_PARAMETER (R184, R185). -/
def State.command (s : State) (value : Byte) : State :=
  if value = 1 then s.join
  else if value = 2 then s.leave
  else if value = 3 then s.restart
  else if value = 4 then s.rearmSub
  else if value = 5 then s.rearmCmp
  else if value = 6 then s.restore
  else if value = 7 then s.inject
  else s.record value .badParameter 0

/-! ### Writes of the register window (R182, R183) -/

/-- A command parameter byte written. -/
def State.writeParam (s : State) (i : Nat) (value : Byte) : State :=
  s.setHost { s.host with params := s.host.params.setIfInBounds i value }

/-- The table select written: nothing is loaded (R186). -/
def State.writeSelect (s : State) (value : Byte) : State :=
  s.setHost { s.host with tableSelect := value }

/-- The address belongs to a register whose access is read alone (R182, R183). -/
def readOnlyAddress (a : Nat) : Bool :=
  decide (a ≤ 0x0E) || (decide (0x10 ≤ a) && decide (a ≤ 0x15)) ||
    (decide (0x18 ≤ a) && decide (a ≤ 0x1F))

/-- A write of one byte, by its address; an address outside the registers is ignored (R183). An
address with a row of its own in the table acts as that row (log 27). -/
def State.writeRegister (s : State) (a : Nat) (value : Byte) : State :=
  if 0x20 ≤ a ∧ a ≤ 0x27 then s.writeParam (a - 0x20) value
  else if a = 0x28 then s.command value
  else if a = 0x29 then s.writeSelect value
  else if a = 0x2A then s.writeIndex value
  else if a = 0x2B then s.store
  else if 0x30 ≤ a ∧ a ≤ 0x47 then s.writeData (a - 0x30) value
  else if readOnlyAddress a then s.accessRefused (natByte a)
  else s

/-! ### Reads of the register window (R120, R182, R183, log 9) -/

/-- Byte 0 of the line status. -/
def State.lineStatus (s : State) : Byte :=
  0#3 ++ flagBit s.line.stuck ++ s.line.attempt.code ++ s.line.rx.code

/-- The value of the byte at an address as it is loaded for output. Byte 0 of the time snapshot and of
the report window are those of a capture made at the loading, which has rows of its own (R70, R190). -/
def State.readByte (s : State) (address : BitVec 7) : Byte :=
  let a := address.toNat
  if a = 0x00 then 0x12
  else if a = 0x01 then 0x08
  else if a = 0x02 then s.station.mode.code
  else if a = 0x03 then s.lineStatus
  else if a ≤ 0x09 then s.line.stuckTime.extractLsb' (8 * (a - 4)) 8
  else if a = 0x0A then s.host.errorCode.code
  else if a = 0x0B then s.host.status.source
  else if a = 0x0C then s.host.status.outcome.code
  else if a = 0x0D then s.host.status.detail
  else if a = 0x0E then natByte s.host.reports.length
  else if a = 0x10 then s.time.lineTime.setWidth 8
  else if 0x10 < a ∧ a ≤ 0x15 then s.host.snapshot.extractLsb' (8 * (a - 0x10)) 8
  else if a = 0x18 then (captureOf s.host.reports)[0]
  else if 0x18 < a ∧ a ≤ 0x1F then s.host.capture[a - 0x18]?.getD 0
  else if 0x20 ≤ a ∧ a ≤ 0x27 then s.host.params[a - 0x20]?.getD 0
  else if a = 0x29 then s.host.tableSelect
  else if a = 0x2A then s.host.tableIndex
  else if 0x30 ≤ a ∧ a ≤ 0x47 then stByte s.host.staging (s.stagingOffset (a - 0x30))
  else 0

/-- The transaction goes on behind byte 7 of the report window: byte 7 has been read to its eighth bit
(R181, R190). -/
def State.behindByte7 (s : State) (address : BitVec 7) : State :=
  if address = 0x20 ∧ s.host.transaction = some { dir := .read, next := 0x20 } then s.removeHead
  else s

/-- A plain data byte is loaded for output (R183). -/
def State.loadByte (s : State) (address : BitVec 7) : State :=
  s.setHost (s.host.reading address (s.readByte address))

/-- A data byte is loaded for output. Byte 0 of the time snapshot and byte 0 of the report window capture
(R70, R190), and act as the rows they have of their own (log 27). -/
def State.readRegister (s : State) (address : BitVec 7) : State :=
  if address = 0x10 then s.takeSnapshot
  else if address = 0x18 then s.captureHead
  else (s.behindByte7 address).loadByte address

/-! ### One byte of a transaction -/

/-- A data byte of a transaction, written or loaded (R183). -/
def State.dataByte (s : State) (dir : Transfer) (address : BitVec 7) (value : Byte) : State :=
  match dir with
  | .write => (s.hostWrite address).writeRegister address.toNat value
  | .read => s.readRegister address

/-- A byte of a transaction at the register window: a data byte, or the command byte that begins a
transaction (R181, R183). -/
def State.portByte (s : State) (command : Byte) (data : Option Byte) : State :=
  match data with
  | some value => s.dataByte (commandDir command) (command.setWidth 7) value
  | none => s.setHost (s.host.beginTransaction command)

/-- REGISTER_WRITE (R181, R183). -/
def execRegisterWrite (command : Byte) (data : Option Byte) (s : State) : Result :=
  act s fun s => s.portByte command data

end Sys2Proof.Machine
end

