-- ==== Sys2Proof/Machine/Notices.lean ====
section
/-! DEFINITION. The frames of the line: what a station puts into its notices and how the frame
receiver reads them (chapter 07, sections 7.3 and 7.4, and chapter 12, section 12.1). -/

namespace Sys2Proof.Machine

/-! ### The CRC (R194) -/

/-- One bit into the CRC register. -/
def crcBit (r : BitVec 16) (b : Bool) : BitVec 16 :=
  if r.getLsbD 15 ^^ b then (r <<< 1) ^^^ 0x1021#16 else r <<< 1

/-- One byte, most significant bit first. -/
def crcByte (r : BitVec 16) (x : Byte) : BitVec 16 :=
  [7, 6, 5, 4, 3, 2, 1, 0].foldl (fun r i => crcBit r (x.getLsbD i)) r

/-- The CRC of a row of bytes. -/
def crc16 (l : List Byte) : BitVec 16 := l.foldl crcByte 0xFFFF#16

/-- A row of bytes with its CRC behind it, high byte first. -/
def withCrc (l : List Byte) : List Byte := l ++ beBytes 2 (crc16 l)

/-! ### Sending (R85, R129, R130, R193) -/

/-- Byte 0: priority, kind, zeros. -/
def headByte0 (p : Priority) (kind : BitVec 2) : Byte := p ++ kind ++ 0#3

/-- Byte 1: station number, synced flag, optional-part flag. -/
def headByte1 (n : StationNo) (synced opt : Bool) : Byte := n ++ flagBit synced ++ flagBit opt

/-- An optional 48-bit time, most significant byte first. -/
def timeBytes : Option LineTime → List Byte
  | none => []
  | some t => beBytes 6 t

/-- An optional payload, most significant byte first. -/
def payloadBytes : Option Value32 → List Byte
  | none => []
  | some v => beBytes 4 v

/-- The bytes of a SYNC notice before its CRC. -/
def syncBytes (n : StationNo) (synced : Bool) (seq : Byte) (prev : Option LineTime) : List Byte :=
  headByte0 0 0 :: headByte1 n synced prev.isSome :: seq :: timeBytes prev

/-- The bytes of an EVENT notice before its CRC. -/
def eventBytes (p : Priority) (n : StationNo) (synced : Bool) (o : Occurrence) : List Byte :=
  headByte0 p 1 :: headByte1 n synced o.payload.isSome :: o.event.extractLsb' 4 8 ::
    (o.event.extractLsb' 0 4 ++ o.gen ++ 0#2 : BitVec 8) ::
      (beBytes 6 o.stamp ++ payloadBytes o.payload)

/-- The bytes of a LEAVE notice before its CRC. -/
def leaveBytes (p : Priority) (n : StationNo) (synced : Bool) (reason : Byte) : List Byte :=
  [headByte0 p 2, headByte1 n synced false, reason]

/-- The synced flag at an attempt's start: ACTIVE (R129, R130). -/
def State.syncedNow (s : State) : Bool := s.station.mode == .active

/-- The bytes of a notice as fixed at the start of an attempt (R85, R129, R130). -/
def State.noticeBytes (s : State) (n : Notice) : List Byte :=
  let own := s.station.cfg.ownNumber
  match n.body with
  | .sync => withCrc (syncBytes own s.syncedNow s.time.syncCount s.time.prevEdge)
  | .event o => withCrc (eventBytes n.priority own (s.syncedNow && !o.restamped) o)
  | .leave reason => withCrc (leaveBytes n.priority own s.syncedNow reason)

/-! ### Bits on the line (R109) -/

/-- The ten bits of a character: start bit, data most significant bit first, stop bit. -/
def charBits (x : Byte) : List Level :=
  false :: ([7, 6, 5, 4, 3, 2, 1, 0].map fun i => x.getLsbD i) ++ [true]

/-- The bits of a frame, characters back to back. -/
def frameBits (l : List Byte) : List Level := l.flatMap charBits

/-- The level a sender drives at a bit time of its frame. -/
def sentLevel (l : List Byte) (sample : Nat) : Option Level := (frameBits l)[sample]?

/-- The bit time of a data bit of bytes 0 and 1 (R114). -/
def dataBitSample (dataBit : Nat) : Nat := 10 * (dataBit / 8) + 1 + dataBit % 8

/-- A bit time of bytes 0 and 1 is a data bit's. -/
def isDataSample (sample : Nat) : Bool := decide (1 ≤ sample % 10) && decide (sample % 10 ≤ 8)

/-! ### Receiving (R112, R131, R193) -/

/-- Byte `i` of a frame as read so far. -/
def frameByte (l : List Byte) (i : Nat) : Byte := l[i]?.getD 0

/-- The kind in byte 0. -/
def frameKind (l : List Byte) : BitVec 2 := (frameByte l 0).extractLsb' 3 2

/-- The station number in byte 1. -/
def frameStation (l : List Byte) : StationNo := (frameByte l 1).extractLsb' 2 6

/-- The synced flag in byte 1. -/
def frameSynced (l : List Byte) : Bool := (frameByte l 1).getLsbD 1

/-- The optional-part flag in byte 1. -/
def frameOpt (l : List Byte) : Bool := (frameByte l 1).getLsbD 0

/-- A bit that R193 gives as zero is set, or the kind is not a kind, in the bytes read so far
(R131). -/
def malformed (l : List Byte) : Bool :=
  (decide (1 ≤ l.length) && ((frameByte l 0).extractLsb' 0 3 != 0 || frameKind l == 3)) ||
    (decide (2 ≤ l.length) && frameKind l == 2 && frameOpt l) ||
    (decide (4 ≤ l.length) && frameKind l == 1 && (frameByte l 3).extractLsb' 0 2 != 0)

/-- The expected length, fixed from the first two bytes; a malformed frame has none (R131). -/
def expectedLength (l : List Byte) : Option Nat :=
  if l.length < 2 || malformed l then none
  else if frameKind l = 0 then some (if frameOpt l then 11 else 5)
  else if frameKind l = 1 then some (if frameOpt l then 16 else 12)
  else if frameKind l = 2 then some 5
  else none

/-- The frame receiver declares the frame complete (R131). -/
def frameComplete (l : List Byte) : Bool := expectedLength l == some l.length

/-- How a frame in reception ended (R112). -/
inductive FrameEnding where
  | complete
  | framing
  | gap
  deriving DecidableEq, Repr

/-- The character has a framing error (R109). -/
def charFramingError (c : CharSample) : Bool := c.start || !c.stop

/-- The characters read one after the other behind the bytes already read, until the frame ends. A
line that brings no further character has been recessive for a gap (R112). -/
def readChars : List CharSample → List Byte → List Byte × FrameEnding
  | [], got => (got, .gap)
  | c :: cs, got =>
    if charFramingError c then (got ++ [c.data], .framing)
    else if frameComplete (got ++ [c.data]) then (got ++ [c.data], .complete)
    else readChars cs (got ++ [c.data])

/-- A notice as read from a valid frame. -/
inductive Received where
  | sync (n : StationNo) (synced : Bool) (seq : Byte) (prev : Option LineTime)
  | event (n : StationNo) (synced : Bool) (event : EventNo) (gen : Generation) (stamp : LineTime)
      (payload : Option Value32)
  | leave (n : StationNo) (reason : Byte)
  deriving DecidableEq, Repr

/-- Bytes `i` to `i + n − 1` of a frame as a number, most significant byte first. -/
def frameField (l : List Byte) (i n w : Nat) : BitVec w :=
  BitVec.ofNat w (beValue ((l.drop i).take n))

/-- The event number of an EVENT notice. -/
def frameEvent (l : List Byte) : EventNo := frameByte l 2 ++ (frameByte l 3).extractLsb' 4 4

/-- The notice a complete frame spells; a frame whose kind is not a kind is never complete. -/
def parseFrame (l : List Byte) : Option Received :=
  if frameKind l = 0 then
    some
      (.sync (frameStation l) (frameSynced l) (frameByte l 2)
        (if frameOpt l then some (frameField l 3 6 48) else none))
  else if frameKind l = 1 then
    some
      (.event (frameStation l) (frameSynced l) (frameEvent l) ((frameByte l 3).extractLsb' 2 2)
        (frameField l 4 6 48) (if frameOpt l then some (frameField l 10 4 32) else none))
  else if frameKind l = 2 then some (.leave (frameStation l) (frameByte l 2))
  else none

/-- The CRC of a complete frame matches (R132, R194). -/
def crcMatches (l : List Byte) : Bool :=
  crc16 (l.take (l.length - 2)) == frameField l (l.length - 2) 2 16

/-- The frame is an EVENT notice whose event number is 0 (R132). -/
def eventZero (l : List Byte) : Bool := frameKind l == 1 && frameEvent l == 0

/-- The notice of a frame that ended in a given way, or none where the frame is discarded (R132). -/
def validNotice (l : List Byte) (e : FrameEnding) : Option Received :=
  if e = .complete ∧ crcMatches l ∧ ¬ eventZero l then parseFrame l else none

end Sys2Proof.Machine
end

