-- ==== Sys2Proof/Machine/LineEngine.lean ====
section
/-! DEFINITION. The line engine (chapters 06 and 07): receiver, stuck-line watch, transmit attempts,
the frame receiver and what it delivers. -/

namespace Sys2Proof.Machine

/-! ### The receiver (R110, R111, R119) -/

/-- A run of recessive line read by the receiver (R110). -/
def LineEngine.readRecessive (l : LineEngine) (ticks : Nat) : LineEngine :=
  { l with recessiveRun := ticks, dominantRun := 0 }

/-- A run of dominant line read by the receiver (R110, R118). -/
def LineEngine.readDominant (l : LineEngine) (ticks : Nat) : LineEngine :=
  { l with recessiveRun := 0, dominantRun := ticks }

/-- No transmit attempt is in progress. -/
def State.noAttempt (s : State) : Bool := s.line.attempt == .waitGap

/-- The receive error count up by one, holding at 65535 (R133). -/
def LineEngine.countError (l : LineEngine) : LineEngine :=
  { l with rxErrors := min (l.rxErrors + 1) 65535 }

/-- The frame ends: the buffer is empty and the receiver stands in `next` (R110, R112); FREE is entered by a
gap alone, which a station that has met a bit error waits for (R115). -/
def LineEngine.endFrame (l : LineEngine) (next : RxState) : LineEngine :=
  { l with rx := next, rxFrame := none, awaitGap := next != .free && l.awaitGap }

/-- The line has been recessive for a gap, and no attempt of this station drives a frame (R110). -/
def State.gapDue (s : State) (ticks : Nat) : Bool :=
  s.station.cfg.lasted ticks Config.gapBits && (s.line.rx != .receiving || s.noAttempt)

/-- The receiver at a gap: FREE, a frame in reception ended by it, discarded and counted (R110, R112,
R132). In FREE it is the gap that a station waits for after a bit error (R115, log 32). -/
def LineEngine.gapReceiver (l : LineEngine) : LineEngine :=
  match l.rx with
  | .receiving => l.countError.endFrame .free
  | .seeking => l.endFrame .free
  | .free => { l with awaitGap := false }
  | .off => l

/-- The ticks of line time since the line-stuck flag was set, saturated (R119). Where a join step in between
has taken line time below the time of the setting the manual states no number, and it is a free value
(log 33). -/
def State.stuckTicks (s : State) : BitVec 32 :=
  if s.line.stuckFor < 0 then BitVec.ofNat 32 (Config.freeChoice s.choices)
  else satTicks s.line.stuckFor.toNat

/-- The line-stuck flag at a gap: cleared, with LINE_FREE (R119). -/
def State.freeLine (s : State) : State :=
  if s.line.stuck then
    ((s.setLine { s.line with stuck := false }).report (.lineFree s.stuckTicks)).useChoices 1
  else s

/-- A recessive run is read, and is a gap where it has lasted one (R110, R119). -/
def State.gap (s : State) (ticks : Nat) : State :=
  let s' := s.setLine (s.line.readRecessive ticks)
  if s.gapDue ticks then (s'.setLine s'.line.gapReceiver).freeLine else s'

/-- GAP (R110). A receiver that is OFF reads nothing. -/
def execGap (ticks : Nat) (s : State) : Result := actIf s.rxOn s fun s => s.gap ticks

/-- An attempt takes the start edge as its receiver reads it, and times its bits from it (R113). -/
def LineEngine.clockFromEdge (l : LineEngine) : Option Nat :=
  match l.attempt with
  | .waitGap => none
  | .arbitrating => some 0
  | .sending => some 0

/-- A start edge in FREE whose start bit samples dominant begins a frame (R110, R111). -/
def State.beginFrame (s : State) : State :=
  s.setLine
    { s.line with
      rx := .receiving, rxFrame := some { rawStamp := s.time.lineTime, bytes := [] },
      txClock := s.line.clockFromEdge }

/-- A recessive-to-dominant transition is read: the recessive run ends, and in FREE a frame begins
where the start bit then samples dominant (R110, R111). -/
def State.startEdge (s : State) (startSample : Level) : State :=
  let s' := s.setLine { s.line with recessiveRun := 0 }
  if s.line.rx = .free ∧ startSample = false then s'.beginFrame else s'

/-- START_EDGE (R111). -/
def execStartEdge (startSample : Level) (s : State) : Result :=
  actIf s.rxOn s fun s => s.startEdge startSample

/-! ### The stuck line (R118) -/

/-- 25 bit times dominant with the flag clear. By then the receiver is in SEEKING and no attempt is in
progress: the run has ended both before (R118, log 18). -/
def State.stuckDue (s : State) (ticks : Nat) : Bool :=
  s.station.cfg.lasted ticks Config.stuckBits && !s.line.stuck && s.line.rx == .seeking &&
    s.noAttempt

/-- The line is stuck: flag, time of the setting, LINE_STUCK (R118). -/
def State.stickLine (s : State) : State :=
  (s.setLine { s.line with stuck := true, stuckTime := s.time.lineTime, stuckFor := 0 }).report .lineStuck

/-- A dominant run is read, and sets the line-stuck flag where it has lasted 25 bit times (R118). -/
def State.lineStuck (s : State) (ticks : Nat) : State :=
  let s' := s.setLine (s.line.readDominant ticks)
  if s.stuckDue ticks then s'.stickLine else s'

/-- LINE_STUCK (R118). -/
def execLineStuck (ticks : Nat) (s : State) : Result := actIf s.rxOn s fun s => s.lineStuck ticks

/-! ### The frame receiver (R112, R132, R134, R135) -/

/-- The occurrence of a received EVENT notice (R135). -/
def receivedOccurrence (n : StationNo) (synced : Bool) (event : EventNo) (gen : Generation)
    (carried edge : LineTime) (payload : Option Value32) : Occurrence :=
  { event := event, stamp := if synced then carried else edge, origin := .station n, gen := gen,
    payload := payload, restamped := !synced }

/-- A valid notice is delivered with its compensated start-edge stamp (R134, R135). -/
def State.deliver (s : State) (edge : LineTime) (r : Received) : State :=
  match r with
  | .sync n synced seq prev => s.takeSync n seq synced edge prev
  | .leave n _ => s.takeLeave n
  | .event n synced event gen carried payload =>
    s.arrive (receivedOccurrence n synced event gen carried edge payload)

/-- A frame of another station is discarded and counted, or its notice is delivered (R132). -/
def State.receive (s : State) (edge : LineTime) (r : Option Received) : State :=
  match r with
  | none => s.setLine s.line.countError
  | some r => s.deliver edge r

/-- The receiver's state after a frame (R112). -/
def FrameEnding.next : FrameEnding → RxState
  | .complete => .seeking
  | .framing => .seeking
  | .gap => .free

/-- The compensated stamp of a raw start-edge stamp (R111). -/
def State.compensated (s : State) (raw : LineTime) : LineTime :=
  raw + s.station.cfg.lineDelay.setWidth 48

/-- The frame in reception ends after the characters given (R112). -/
def State.frameEnd (s : State) (f : RxFrame) (chars : List CharSample) : State :=
  let r := readChars chars f.bytes
  (s.setLine (s.line.endFrame r.2.next)).receive (s.compensated f.rawStamp) (validNotice r.1 r.2)

/-- A frame of another station is in reception (R112). -/
def State.frameDue (s : State) : Bool := s.line.rx == .receiving && s.noAttempt

/-- FRAME_END (R112). -/
def execFrameEnd (chars : List CharSample) (s : State) : Result :=
  match s.line.rxFrame with
  | some f => actIf s.frameDue s fun s => s.frameEnd f chars
  | none => .next s

/-! ### Transmit attempts (R113 to R116, R124 to R127) -/

/-- The head of the transmit queue: the first notice whose in-transmission mark is clear (R121). -/
def headNotice (q : List Notice) : Option Notice := q.find? fun n => !n.inTx

/-- The head's in-transmission mark set (R124). -/
def markHead : List Notice → List Notice
  | [] => []
  | n :: q => if n.inTx then n :: markHead q else { n with inTx := true } :: q

/-- The notice in transmission (R121). -/
def txNotice (q : List Notice) : Option Notice := q.find? fun n => n.inTx

/-- The notice in transmission removed (R126). -/
def removeTx (q : List Notice) : List Notice := q.filter fun n => !n.inTx

/-- An attempt can begin (R113). A station drives nothing from a bit error to the next gap, the receiver
being still FREE after one at the start bit of byte 0 (R115, log 32). -/
def State.attemptDue (s : State) : Bool :=
  s.txOn && s.noAttempt && s.line.rx == .free && !s.line.awaitGap && (headNotice s.line.txq).isSome

/-- The attempt begins: the head taken, its bytes fixed, the start bit of byte 0 driven (R113). -/
def State.attemptBegin (s : State) : State :=
  match headNotice s.line.txq with
  | some n =>
    s.setLine
      { s.line with
        attempt := .arbitrating, attemptBytes := s.noticeBytes n, txq := markHead s.line.txq,
        txl := false }
  | none => s

/-- ATTEMPT_BEGIN (R113). -/
def execAttemptBegin (s : State) : Result := actIf s.attemptDue s State.attemptBegin

/-- The frame in the buffer goes on as another station's, with the bytes the line carried, which up
to here are those sent (R114, R115). -/
def LineEngine.frameAsRead (l : LineEngine) (bytes : Nat) : Option RxFrame :=
  l.rxFrame.map fun f => { f with bytes := l.attemptBytes.take bytes }

/-- The attempt ends in WAIT_GAP with TXL high; `bytes` characters of it have been read whole (R114,
R115). -/
def LineEngine.dropAttempt (l : LineEngine) (bytes : Nat) : LineEngine :=
  { l with
    attempt := .waitGap, attemptBytes := [], rxFrame := l.frameAsRead bytes, txl := true,
    txClock := none }

/-- A notice whose attempt ended without completion in LEAVING: an own SYNC is withdrawn (R123). -/
def State.keepsNotice (s : State) (n : Notice) : Bool :=
  !(s.station.mode == .leaving && n.isSync)

/-- The notice in transmission handed back unchanged, or withdrawn (R114, R123, R124). -/
def State.handBack (s : State) (q : List Notice) : List Notice :=
  (q.filter fun n => !n.inTx || s.keepsNotice n).map fun n => { n with inTx := false }

/-- This station's frame is on the line, its start edge read (R113). -/
def State.ownFrame (s : State) : Bool := s.line.rx == .receiving && s.line.rxFrame.isSome

/-- The bit of the own frame that is sampled now: each once, at the middle of its bit time (R109). -/
def State.sampleNow (s : State) : Option Nat :=
  match s.line.txClock, s.station.cfg.bitTicks with
  | some n, some b => if n % b = b / 2 then some (n / b) else none
  | _, _ => none

/-- In ARBITRATING a data bit sent recessive is read dominant, at its sample (R114). -/
def State.lossDue (s : State) (dataBit : Nat) : Bool :=
  s.line.attempt == .arbitrating && s.ownFrame && decide (dataBit < 16) &&
    s.sampleNow == some (dataBitSample dataBit) &&
    sentLevel s.line.attemptBytes (dataBitSample dataBit) == some true

/-- Arbitration lost (R114). -/
def State.arbitrationLost (s : State) (dataBit : Nat) : State :=
  s.setLine { s.line.dropAttempt (dataBit / 8) with txq := s.handBack s.line.txq }

/-- ARBITRATION_LOST (R114). -/
def execArbitrationLost (dataBit : Nat) (s : State) : Result :=
  actIf (s.lossDue dataBit) s fun s => s.arbitrationLost dataBit

/-- In ARBITRATING, the last data bit of byte 1 is sampled (R114). -/
def State.winDue (s : State) : Bool :=
  s.line.attempt == .arbitrating && s.ownFrame && s.sampleNow == some (dataBitSample 15)

/-- Arbitration won (R114). -/
def State.arbitrationWon (s : State) : State := s.setLine { s.line with attempt := .sending }

/-- ARBITRATION_WON (R114). -/
def execArbitrationWon (s : State) : Result := actIf s.winDue s State.arbitrationWon

/-- A sample of ARBITRATING at which a difference is a bit error: a start or stop bit, or a data bit
sent dominant. At the start bit of byte 0 the receiver, sampling recessive, is still FREE (R110,
R114). -/
def State.arbErrorAt (s : State) (sample : Nat) : Bool :=
  if sample = 0 then s.line.rx == .free
  else
    decide (sample < dataBitSample 15 + 1) && s.ownFrame &&
      !(isDataSample sample && sentLevel s.line.attemptBytes sample == some true)

/-- A sample of SENDING: any bit of the frame behind the last data bit of byte 1 (R115). -/
def State.sendErrorAt (s : State) (sample : Nat) : Bool :=
  decide (dataBitSample 15 < sample) && decide (sample < 10 * s.line.attemptBytes.length) &&
    s.ownFrame

/-- The bit of a number is sampled now: by the clock from the start edge or, where the start bit of byte 0
has sampled recessive and so made no start edge, that start bit (R109, R110). -/
def State.samples (s : State) (sample : Nat) : Bool :=
  s.sampleNow == some sample || (sample == 0 && s.line.rx == .free)

/-- A sample at which a difference is a bit error (R114, R115). -/
def State.errorDue (s : State) (sample : Nat) : Bool :=
  s.samples sample &&
    match s.line.attempt with
    | .waitGap => false
    | .arbitrating => s.arbErrorAt sample
    | .sending => s.sendErrorAt sample

/-- The notice's third errored attempt (R125). -/
def Notice.lastTry (n : Notice) : Bool := decide (Config.erroredLimit ≤ n.errored + 1)

/-- The transmit queue after an errored attempt (R123, R125). -/
def State.countErrored (s : State) (q : List Notice) : List Notice :=
  (q.filter fun n => !n.inTx || (s.keepsNotice n && !n.lastTry)).map fun n =>
    if n.inTx then { n with inTx := false, errored := n.errored + 1 } else n

/-- What follows the third errored attempt, according to the notice's kind (R125). -/
def State.abandon (s : State) (n : Notice) : State :=
  match n.body with
  | .event o => s.report (.eventLost o.event .abandoned)
  | .sync => s
  | .leave _ => s.enterConfig .leaveAbandoned

/-- The attempt ends with a bit error: nothing is driven until the next gap (R115), and one errored attempt
counts against its notice (R125). -/
def State.bitError (s : State) (sample : Nat) : State :=
  let s' :=
    s.setLine
      { s.line.dropAttempt (sample / 10) with txq := s.countErrored s.line.txq, awaitGap := true }
  match txNotice s.line.txq with
  | some n => if n.lastTry then s'.abandon n else s'
  | none => s'

/-- BIT_ERROR (R115). -/
def execBitError (sample : Nat) (s : State) : Result :=
  actIf (s.errorDue sample) s fun s => s.bitError sample

/-- The own frame's completion at the line engine: notice removed, WAIT_GAP, SEEKING (R116, R126). -/
def LineEngine.completeAttempt (l : LineEngine) : LineEngine :=
  { l.endFrame .seeking with
    attempt := .waitGap, attemptBytes := [], txq := removeTx l.txq, txl := true, txClock := none }

/-- The occurrence of an own completed EVENT frame (R127). -/
def State.ownOccurrence (s : State) (o : Occurrence) : Occurrence :=
  { o with origin := .station s.station.cfg.ownNumber }

/-- An own SYNC has completed (R86). -/
def TimeUnit.ownSync (t : TimeUnit) (raw : LineTime) : TimeUnit :=
  { t with prevEdge := some raw, syncCount := t.syncCount + 1 }

/-- The completion handed on by the notice's kind (R126, R127). -/
def State.completed (s : State) (raw : LineTime) (n : Notice) : State :=
  match n.body with
  | .sync => s.setTime (s.time.ownSync raw)
  | .event o => s.arrive (s.ownOccurrence o)
  | .leave _ => s.enterConfig .left

/-- The attempt completes (R116, R126). -/
def State.attemptComplete (s : State) (f : RxFrame) : State :=
  let s' := s.setLine s.line.completeAttempt
  match txNotice s.line.txq with
  | some n => s'.completed f.rawStamp n
  | none => s'

/-- In SENDING, the stop bit of the notice's last character is sampled (R116). -/
def State.completeDue (s : State) : Bool :=
  s.line.attempt == .sending && s.ownFrame &&
    s.sampleNow == some (10 * s.line.attemptBytes.length - 1)

/-- ATTEMPT_COMPLETE (R116). -/
def execAttemptComplete (s : State) : Result :=
  match s.line.rxFrame with
  | some f => actIf s.completeDue s fun s => s.attemptComplete f
  | none => .next s

end Sys2Proof.Machine
end

