-- ==== Sys2Proof/Machine/Clock.lean ====
section
/-! DEFINITION. One tick of the local clock: line time counts with the slew spread over the round
(R67, R69), and every running timer counts down one local tick. -/

namespace Sys2Proof.Machine

/-- A running timer one local tick further; a stopped one stays stopped. -/
def countDown (t : Option Nat) : Option Nat := t.map fun n => n - 1

/-- How many of `size` slew ticks have been applied after `e` of the `period` local ticks of a round:
the fraction rounded toward zero (R69). -/
def slewApplied (size period e : Nat) : Nat := e * size / period

/-- The slew ticks that fall in the tick period after `e` local ticks of the round (R69). -/
def slewStep (slew : Int) (period e : Nat) : Int :=
  slew.sign * (slewApplied slew.natAbs period (e + 1) - slewApplied slew.natAbs period e : Nat)

/-- What line time advances by in a tick period: one tick, and the slew's part while the sync timer
runs (R67, R69). -/
def TimeUnit.advance (t : TimeUnit) (period : Nat) : Int :=
  match t.syncTimer with
  | some left => 1 + slewStep t.slew period (period - left)
  | none => 1

/-- The line time unit after a tick (R67, R69, R79). -/
def TimeUnit.tick (t : TimeUnit) (period : Nat) : TimeUnit :=
  { t with
    lineTime := t.lineTime + BitVec.ofInt 48 (t.advance period)
    syncTimer := countDown t.syncTimer }

/-- The station controller after a tick (R91). -/
def StationUnit.tick (u : StationUnit) : StationUnit :=
  { u with listenTimer := countDown u.listenTimer, leaveTimer := countDown u.leaveTimer }

/-- A candidate's filter timer after a tick (R139). -/
def Candidate.tick (k : Candidate) : Candidate := { k with left := k.left - 1 }

/-- A channel after a tick (R137, R139, R146, R147). -/
def Channel.tick (c : Channel) : Channel :=
  { c with
    cand := c.cand.map Candidate.tick
    mismatch := countDown c.mismatch
    holdOff := countDown c.holdOff }

/-- The position unit after a tick (R162, R164). -/
def PositionUnit.tick (p : PositionUnit) : PositionUnit :=
  { p with
    shiftWord := p.sampled, shiftLeft := countDown p.shiftLeft, recovery := countDown p.recovery }

/-- An attempt with its frame on the line drives the bit whose time it is at the end of a tick period (R107,
R109, R113). -/
def LineEngine.drive (l : LineEngine) (bitTicks : Option Nat) : LineEngine :=
  match l.txClock, bitTicks with
  | some n, some b =>
    { l with txClock := some (n + 1), txl := (sentLevel l.attemptBytes ((n + 1) / b)).getD true }
  | _, _ => l

/-- The line engine after a tick that takes line time on by `n` ticks (R107, R113, R119). -/
def LineEngine.tick (l : LineEngine) (n : Int) (bitTicks : Option Nat) : LineEngine :=
  (l.passTicks n).drive bitTicks

/-- The part after one tick of the local clock. -/
def State.tick (s : State) : State :=
  ((((s.setTime (s.time.tick s.station.cfg.period)).setStation s.station.tick).setChans
      (mapVec s.chans fun _ c => c.tick)).setPos s.pos.tick).setLine
    (s.line.tick (s.time.advance s.station.cfg.period) s.station.cfg.bitTicks)

end Sys2Proof.Machine
end

