-- ==== Sys2Proof/Machine/Dispatch.lean ====
section
/-! DEFINITION. One arm per command: the meaning of each. -/

namespace Sys2Proof.Machine

/-- The effect of a command on everything but the queue of waiting commands. -/
def exec (i : Instr) (s : State) : Host.Outcome State Fault Refusal :=
  match i with
  | .join => Sys2Proof.Machine.execJoin s
  | .leave => Sys2Proof.Machine.execLeave s
  | .restart => Sys2Proof.Machine.execRestart s
  | .rearmSub => Sys2Proof.Machine.execRearmSub s
  | .rearmCmp => Sys2Proof.Machine.execRearmCmp s
  | .restore => Sys2Proof.Machine.execRestore s
  | .inject => Sys2Proof.Machine.execInject s
  | .store value => Sys2Proof.Machine.execStore value s
  | .tableIndex value => Sys2Proof.Machine.execTableIndex value s
  | .tableData offset value => Sys2Proof.Machine.execTableData offset value s
  | .timeSnapshot => Sys2Proof.Machine.execTimeSnapshot s
  | .reportWindow => Sys2Proof.Machine.execReportWindow s
  | .reportHeadRemove => Sys2Proof.Machine.execReportHeadRemove s
  | .registerWrite command data => Sys2Proof.Machine.execRegisterWrite command data s
  | .hardwareReset edge => Sys2Proof.Machine.execHardwareReset edge s
  | .gap ticks => Sys2Proof.Machine.execGap ticks s
  | .startEdge startSample => Sys2Proof.Machine.execStartEdge startSample s
  | .frameEnd chars => Sys2Proof.Machine.execFrameEnd chars s
  | .lineStuck ticks => Sys2Proof.Machine.execLineStuck ticks s
  | .attemptBegin => Sys2Proof.Machine.execAttemptBegin s
  | .arbitrationLost dataBit => Sys2Proof.Machine.execArbitrationLost dataBit s
  | .arbitrationWon => Sys2Proof.Machine.execArbitrationWon s
  | .bitError sample => Sys2Proof.Machine.execBitError sample s
  | .attemptComplete => Sys2Proof.Machine.execAttemptComplete s
  | .leaveNoticePlaced => Sys2Proof.Machine.execLeaveNoticePlaced s
  | .syncRound => Sys2Proof.Machine.execSyncRound s
  | .listenWindowExpiry => Sys2Proof.Machine.execListenWindowExpiry s
  | .leaveTimeout => Sys2Proof.Machine.execLeaveTimeout s
  | .dispatchStart => Sys2Proof.Machine.execDispatchStart s
  | .entryExamined => Sys2Proof.Machine.execEntryExamined s
  | .dispatchComplete => Sys2Proof.Machine.execDispatchComplete s
  | .scheduleExpiry => Sys2Proof.Machine.execScheduleExpiry s
  | .pinTransition pin level => Sys2Proof.Machine.execPinTransition pin level s
  | .edgeCounted channel => Sys2Proof.Machine.execEdgeCounted channel s
  | .readbackFault channel => Sys2Proof.Machine.execReadbackFault channel s
  | .holdOffExpiry channel => Sys2Proof.Machine.execHoldOffExpiry channel s
  | .encoderReadComplete samples => Sys2Proof.Machine.execEncoderReadComplete samples s
  | .recoveryExpiry => Sys2Proof.Machine.execRecoveryExpiry s
  | .transactionEnd => Sys2Proof.Machine.execTransactionEnd s

end Sys2Proof.Machine
end

