-- ==== Sys2Proof/Machine/Idle.lean ====
section
/-! DEFINITION. What the part does when no command waits: an event of its own that is due, or one
tick of the local clock (log 2). -/

namespace Sys2Proof.Machine

/-- An event where it is due. -/
def whenDue (due : Bool) (i : Instr) : List Instr := if due then [i] else []

/-- The events of one channel that are due. -/
def Channel.dueEvents (c : Channel) (i : Nat) : List Instr :=
  whenDue c.countDue (.edgeCounted i) ++ whenDue c.faultDue (.readbackFault i) ++
    whenDue c.restoreDue (.holdOffExpiry i)

/-- The events of the part that are due now, in no order of their own (R13, R105, R136 and the other
rules on causes that meet at one instant). -/
def State.dueEvents (s : State) : List Instr :=
  whenDue s.syncRoundDue .syncRound ++ whenDue s.listenDue .listenWindowExpiry ++
    whenDue s.leaveTimeoutDue .leaveTimeout ++ whenDue s.leavePlaceDue .leaveNoticePlaced ++
    whenDue s.attemptDue .attemptBegin ++ whenDue s.dispatchStartDue .dispatchStart ++
    whenDue s.dispatchCompleteDue .dispatchComplete ++ whenDue s.scheduleDue .scheduleExpiry ++
    whenDue s.readDue (.encoderReadComplete s.pos.shiftWord) ++
    whenDue s.recoveryDue .recoveryExpiry ++
    whenDue s.winDue .arbitrationWon ++ whenDue s.completeDue .attemptComplete ++
    (s.chans.toList.mapIdx fun i c => c.dueEvents i).flatten

/-- What the part can do on its own: an event of it comes about as its command would, the request under way
is taken, or a tick of the local clock passes. -/
inductive Happening where
  | event (i : Instr)
  | taking
  | tick
  deriving DecidableEq, Repr

/-- What is due now: the events of the part, and the taking of a request under way, which belongs to the
instant at which its entry acted (R32, R47, R55). -/
def State.dueNow (s : State) : List Happening :=
  s.dueEvents.map .event ++ if s.disp.underWay.isSome then [.taking] else []

/-- What can happen next: something due, or a tick where nothing is due; and in SCANNING, in either case, the
examination of the next entry, which "takes time" of no stated length (R15, log 10). -/
def State.options (s : State) : List Happening :=
  (if s.dueNow.isEmpty then [.tick] else s.dueNow) ++
    (whenDue s.scanDue .entryExamined).map .event

/-- The option that the next free choice picks (log 3). -/
def State.pick (s : State) : Happening :=
  (s.options[Config.freeChoice s.choices % s.options.length]?).getD .tick

/-- The part on its own: held at reset nothing happens, else the option picked comes about. -/
def idle (s : State) : Result :=
  if s.resetHeld then .next s
  else
    match s.pick with
    | .event i => exec i (s.useChoices 1)
    | .taking => .next (s.useChoices 1).takeUnderWay
    | .tick => .next (s.useChoices 1).tick

end Sys2Proof.Machine
end

