-- ==== Sys2Proof/Machine/Step.lean ====
section
/-! DEFINITION. One step of the machine: the command at the front of the queue, or the part on its
own. -/

namespace Sys2Proof.Machine

/-- A step takes the command at the front of the queue and runs it on the rest; on an empty queue the
part goes on by itself (log 2). -/
def step (s : State) : Host.Outcome State Fault Refusal :=
  match s.pending with
  | [] => idle s
  | c :: q => exec c (s.setPending q)

/-- The command that a word spells, put at the front of the queue; no word spells one, since the
table gives no bits (log 29). -/
def State.withFetchWord (s : State) (nbits w : Nat) : State :=
  match decodeTableWord nbits w with
  | some c => s.setPending (c :: s.pending)
  | none => s

end Sys2Proof.Machine
end

