-- ==== Sys2Proof/Safety.lean ====
section
/-! DEFINITION. What it means for this machine to be safe: it never stops, it stays within what the
manual's collections can hold, and its blocks stand to one another as the chapters say they do. -/

namespace Sys2Proof.Machine

/-- The outcome is a next state: neither a fault nor a refusal. -/
def goesOn (r : Result) : Prop := ∃ t, r = .next t

/-- How many own SYNC notices a transmit queue holds. -/
def syncsIn (q : List Notice) : Nat := q.countP Notice.isSync

/-- How many notices of a transmit queue are in transmission. -/
def marksIn (q : List Notice) : Nat := q.countP fun n => n.inTx

/-- No collection of the part holds more than it has places for (R11, R43, R72, R121, R141, R189), and
the receive error count stays in its range (R133). -/
structure State.Bounded (s : State) : Prop where
  dispatch : s.disp.queue.length ≤ 8
  schedule : s.sched.entries.length ≤ 32
  peers : s.time.peers.length ≤ 24
  shared : sharedCount s.line.txq ≤ 15
  sync : syncsIn s.line.txq ≤ 1
  reports : s.host.reports.length ≤ 32
  fifos : ∀ c : Fin 8, s.chans[c].fifo.length ≤ 16
  errors : s.line.rxErrors ≤ 65535

/-- The station configuration passes checks 1 to 4 of JOIN (R95). -/
def StationConfig.joinable (g : StationConfig) : Bool :=
  g.stationOk && g.syncOk && g.limitsOk && g.rateOk

/-- What the station state says of the blocks it opens and closes (R71, R79, R91, R93, R101, R106,
R107, R110, R113, R115, R118, R119, R121, R124). -/
structure State.LifeCycle (s : State) : Prop where
  closedDispatch : s.isOpen = false → s.disp.queue = [] ∧ s.disp.current = none
  closedSchedule : s.isOpen = false → s.sched.entries = []
  syncTimer : s.time.syncTimer.isSome = s.isOpen
  slewOff : s.isOpen = false → s.time.slew = 0
  listenTimer : s.station.listenTimer.isSome = (s.station.mode == .listen)
  leaveTimer : s.station.leaveTimer.isSome = (s.station.mode == .leaving)
  receiverOff : (s.line.rx == .off) = (s.station.mode == .config)
  receiving : s.line.rxFrame.isSome = (s.line.rx == .receiving)
  stuckOff : s.station.mode = .config → s.line.stuck = false
  quiet : s.txOn = false → s.line.txq = [] ∧ s.line.attempt = .waitGap
  attempting : s.line.attempt ≠ .waitGap →
    (s.line.rx = .free ∨ s.line.rx = .receiving) ∧ s.line.attemptBytes ≠ []
  sending : s.line.attempt = .sending → s.line.rx = .receiving
  leaveNotice : ∀ n ∈ s.line.txq, n.isLeave = true → s.station.mode = .leaving
  onLine : s.station.mode ≠ .config → s.station.cfg.joinable = true
  held : s.resetHeld = true → s.station.mode = .config
  stuck : s.line.stuck = true → s.line.rx = .seeking ∧ s.line.attempt = .waitGap
  stuckSpan : s.line.stuck = true →
    s.time.lineTime = s.line.stuckTime + BitVec.ofInt 48 s.line.stuckFor
  afterError : s.line.awaitGap = true → s.line.attempt = .waitGap ∧ s.line.rx ≠ .off
  clock : s.line.txClock.isSome = (s.line.attempt != .waitGap && s.line.rx == .receiving)
  silent : s.line.attempt = .waitGap → s.line.txl = true
  starting : s.line.attempt ≠ .waitGap → s.line.txClock = none → s.line.txl = false
  driving : ∀ n b, s.line.txClock = some n → s.station.cfg.bitTicks = some b →
    s.line.txl = (sentLevel s.line.attemptBytes (n / b)).getD true

/-- The peer time table holds its records in ascending station number (log 22), none of the own number
while the station is on the line, none of age 4 or more (R72, R74, R76, R81). -/
structure State.PeersLegal (s : State) : Prop where
  ascending : s.time.peers.Pairwise fun a b => a.station.toNat < b.station.toNat
  others : s.station.mode ≠ .config →
    ∀ r ∈ s.time.peers, r.station.setWidth 8 ≠ s.station.cfg.station
  young : ∀ r ∈ s.time.peers, r.age ≤ 3

/-- How long ago an entry was stamped, in stampings (R45). -/
def State.stampAge (s : State) (e : SchedEntry) : Nat := (s.sched.counter - e.seq).toNat

/-- The schedule stands in the order of due times and, at one due time, of the stampings; the remaining
counts are at least 1, and so are the counts they are loaded from (R25, R43, R44, R45). -/
structure State.ScheduleLegal (s : State) : Prop where
  byDue : s.sched.entries.Pairwise fun a b => isLater a.due b.due = false
  byStamp : s.sched.entries.Pairwise fun a b => a.due = b.due → s.stampAge b < s.stampAge a
  stamped : ∀ e ∈ s.sched.entries, 1 ≤ s.stampAge e
  remaining : ∀ e ∈ s.sched.entries,
    1 ≤ e.innerRem.toNat ∧ 1 ≤ e.outerRem.toNat ∧ 1 ≤ e.innerCount.toNat
  drives : ∀ (i : Fin 64) (p : DriveParams), s.disp.subs[i].action = .drive p →
    1 ≤ p.innerCount.toNat ∧ 1 ≤ p.outerCount.toNat
  underWay : ∀ (r : Request) (p : DriveParams), s.disp.underWay = some r → r.action = .drive p →
    1 ≤ p.innerCount.toNat ∧ 1 ≤ p.outerCount.toNat

/-- The line times of the schedule's entries lie well within the range in which a signed comparison says
which is later, as R64 says they always do, and no stamping lies 2^31 stampings back. -/
structure State.ScheduleNear (s : State) : Prop where
  due : ∀ e ∈ s.sched.entries, (timeDiff e.due s.time.lineTime).natAbs < 2 ^ 45
  burst : ∀ e ∈ s.sched.entries, (timeDiff e.burstStart s.time.lineTime).natAbs < 2 ^ 45
  train : ∀ e ∈ s.sched.entries, (timeDiff e.trainStart s.time.lineTime).natAbs < 2 ^ 45
  stamps : ∀ e ∈ s.sched.entries, s.stampAge e < 2 ^ 31

/-- A channel's timers, candidate and output state stand to its levels as R138, R139 and R144 to R148
say. -/
structure Channel.Legal (c : Channel) : Prop where
  output : c.out.isSome = (c.cfg.direction == .output)
  candidate : c.cand.isSome = (c.sensed != c.filtered)
  mismatch : c.mismatch.isSome = (c.driven && c.sensed != c.lastCmd)
  holdOff : c.holdOff.isSome = (c.out == some .heldOff)

/-- What holds on the field side, in the latch table and in the subscription table: the channels are
legal, the reader has a record exactly while it is not IDLE, the timer of its state, and in SHIFTING one
sample for each rise of ECLK so far (R160, R162), a slot
is overrun only while it is new (R175), and an entry of policy EVERY is armed (R28). While RESETN is
asserted every channel is an input (R106). -/
structure State.FieldLegal (s : State) : Prop where
  channels : ∀ c : Fin 8, s.chans[c].Legal
  heldInputs : s.resetHeld = true → ∀ c : Fin 8, s.chans[c].cfg.direction = .input
  heldFilters : s.resetHeld = true → ∀ c : Fin 8, s.chans[c].cand = none
  record : s.pos.record.isSome = (s.pos.reader != .idle)
  shifting : s.pos.shiftLeft.isSome = (s.pos.reader == .shifting)
  sampled : ∀ r left, s.pos.reader = .shifting → s.pos.record = some r →
    s.pos.shiftLeft = some left → left ≤ r.enc.shiftTicks ∧
      s.pos.shiftWord.length =
        (r.enc.shiftTicks - left + r.enc.clock.period / 2) / r.enc.clock.period
  recovery : s.pos.recovery.isSome = (s.pos.reader == .recovery)
  overrun : ∀ i : Fin 8, s.meas.latches[i].overrun = true → s.meas.latches[i].isNew = true
  everyArmed : ∀ i : Fin 64, s.disp.subs[i].policy = .every → s.disp.subs[i].armed = true

/-- The record is an open overflow record (R189). -/
def Report.isOpen (r : Report) : Bool :=
  match r.body with
  | .queueOverflow _ _ o => o
  | _ => false

/-- The report queue: an open overflow record stands at the tail alone, a full queue ends in one, and
a capture that can still remove the head has a head to remove (R189, R190). -/
structure State.ReportsLegal (s : State) : Prop where
  openAtTail : ∀ r ∈ s.host.reports.dropLast, r.isOpen = false
  fullIsOpen : s.host.reports.length = 32 → (s.host.reports.getLast?.map Report.isOpen) = some true
  atMost : s.host.reports.length ≤ 32
  live : s.host.captureLive = true → s.host.reports ≠ []

/-- The transmit queue: in priority order, its SYNC of priority 0, no notice with three errored
attempts, and exactly one notice in transmission while an attempt is in progress (R121, R124, R125). -/
structure State.TransmitLegal (s : State) : Prop where
  ordered : s.line.txq.Pairwise fun a b => a.priority.toNat ≤ b.priority.toNat
  syncFirst : ∀ n ∈ s.line.txq, n.isSync = true → n.priority = 0
  tries : ∀ n ∈ s.line.txq, n.errored ≤ 2
  marked : marksIn s.line.txq = if s.line.attempt = .waitGap then 0 else 1

end Sys2Proof.Machine
end

