-- ==== Sys2Proof/Certificates/Slice0/Obligations.lean ====
section
/-! DEFINITION. The statements for the provers. A statement that a command completes has as its
conclusion that `exec` answers a next state and says what that state holds, block by block; a block that
is not named otherwise is said to be unchanged. -/

open Sys2Proof Sys2Proof.Machine

/-! ### The machine -/

/-- A step takes the command at the front of the queue and runs it on the state with the queue's rest. -/
def Obligations.StepRunsFrontCommand : Prop :=
  ∀ (s : State) (c : Instr) (q : List Instr),
    s.pending = c :: q → step s = exec c { s with pending := q }

/-- On an empty queue (the model's choice, log 2): held at reset nothing happens; where events of the
part are due or a request is under way (log 30), one of the events comes about or the request is taken; where
there is neither a tick passes; and while an entry is still to be examined, in either case, it may be examined
instead. Each choice uses one free choice up (log 3). -/
def Obligations.EmptyQueueStep : Prop :=
  ∀ s : State, s.pending = [] →
    (s.resetHeld = true → step s = .next s) ∧
    (s.resetHeld = false →
      let t := { s with choices := s.choices + 1 }
      let examined := s.scanDue = true ∧ step s = exec .entryExamined t
      let taken := s.disp.underWay.isSome = true ∧ step s = .next t.takeUnderWay
      (s.dueEvents ≠ [] ∨ s.disp.underWay.isSome = true →
        (∃ c ∈ s.dueEvents, step s = exec c t) ∨ taken ∨ examined) ∧
      (s.dueEvents = [] → s.disp.underWay = none → step s = .next t.tick ∨ examined))

/-- No step faults and no step is refused (log 28). -/
def Obligations.StepNeverStops : Prop := ∀ s : State, ∃ t, step s = .next t

/-- After `n` of the `period` local ticks of a round, line time has been moved by the slew's share of
`n / period`, rounded toward zero; by the round's end it is the whole slew; and where the slew is no
longer than the round a tick period is never moved by more than one tick. -/
def Obligations.SlewSpreadOverRound : Prop :=
  ∀ (slew : Int) (period : Nat), 0 < period →
    (∀ n, ((List.range n).map fun e => slewStep slew period e).sum =
      slew.sign * ((n * slew.natAbs / period : Nat) : Int)) ∧
    ((List.range period).map fun e => slewStep slew period e).sum = slew ∧
    (slew.natAbs ≤ period → ∀ e, (slewStep slew period e).natAbs ≤ 1)

/-- One tick of the local clock: line time goes on by one tick and, while the sync timer runs, by the
slew's part of the tick period; a running timer goes down by one and stops at 0, a stopped one stays stopped;
in SHIFTING the level of EDAT joins the shift word at each rise of ECLK, in the middle of a clock period; an
attempt with its frame on the line drives the bit whose time it is; while the line is stuck the time since its
setting goes on with line time; and nothing else changes. What the sync base, the multiplier and the line rate
make in ticks. -/
def Obligations.TickCounts : Prop :=
  (∀ s : State,
    s.tick.time =
      { s.time with
        lineTime := s.time.lineTime + BitVec.ofInt 48 (s.time.advance s.station.cfg.period)
        syncTimer := s.time.syncTimer.map fun n => n - 1 } ∧
    (s.time.syncTimer = none → s.time.advance s.station.cfg.period = 1) ∧
    (s.time.slew = 0 → s.time.advance s.station.cfg.period = 1) ∧
    (∀ left, s.time.syncTimer = some left →
      s.time.advance s.station.cfg.period =
        1 + slewStep s.time.slew s.station.cfg.period (s.station.cfg.period - left)) ∧
    s.tick.station =
      { s.station with
        listenTimer := s.station.listenTimer.map fun n => n - 1
        leaveTimer := s.station.leaveTimer.map fun n => n - 1 } ∧
    s.tick.pos =
      { s.pos with
        shiftWord := s.tick.pos.shiftWord
        shiftLeft := s.pos.shiftLeft.map fun n => n - 1
        recovery := s.pos.recovery.map fun n => n - 1 } ∧
    (∀ (r : ReadRecord) (left : Nat), s.pos.reader = .shifting → s.pos.record = some r →
      s.pos.shiftLeft = some (left + 1) →
      let period :=
        match r.enc.clock with | .mhz1 => 100 | .khz500 => 200 | .khz250 => 400 | .khz125 => 800
      let samples := r.enc.totalBits.toNat + (if r.enc.check = .none then 0 else 1)
      s.tick.pos.shiftWord =
        if (samples * period - left) % period = period / 2 then s.pos.shiftWord ++ [s.pos.edat]
        else s.pos.shiftWord) ∧
    (s.pos.reader ≠ .shifting ∨ s.pos.shiftLeft = some 0 →
      s.tick.pos.shiftWord = s.pos.shiftWord) ∧
    (∀ c : Fin 8, s.tick.chans[c] =
      { s.chans[c] with
        cand := s.chans[c].cand.map fun k => { k with left := k.left - 1 }
        mismatch := s.chans[c].mismatch.map fun n => n - 1
        holdOff := s.chans[c].holdOff.map fun n => n - 1 }) ∧
    (let passed : LineEngine :=
      { s.line with
        stuckFor :=
          if s.line.stuck then s.line.stuckFor + s.time.advance s.station.cfg.period
          else s.line.stuckFor }
    (s.line.txClock = none ∨ s.station.cfg.bitTicks = none → s.tick.line = passed) ∧
    ∀ n b : Nat, s.line.txClock = some n → s.station.cfg.bitTicks = some b →
      s.tick.line =
        { passed with
          txClock := some (n + 1)
          txl := (s.line.attemptBytes.flatMap charBits)[(n + 1) / b]?.getD true }) ∧
    s.tick.disp = s.disp ∧ s.tick.sched = s.sched ∧ s.tick.meas = s.meas ∧
    s.tick.host = s.host ∧ s.tick.resetHeld = s.resetHeld ∧ s.tick.choices = s.choices ∧
    s.tick.pending = s.pending) ∧
  (∀ g : StationConfig,
    (g.syncBase = 0 → g.period = g.syncMult.toNat * 100000) ∧
    (g.syncBase = 1 → g.period = g.syncMult.toNat * 400000) ∧
    (g.syncBase = 2 → g.period = g.syncMult.toNat * 1600000) ∧
    (g.lineRate = 0 → g.bitTicks = some 200) ∧ (g.lineRate = 1 → g.bitTicks = some 100) ∧
    (g.lineRate = 2 → g.bitTicks = some 50))

/-! ### Reset -/

/-- The values that the manual states for hardware reset, in the reset state of the model. Two clauses are
the model's own choice (log 1), of which the manual states no value: no host port transaction is open
(`transaction`) and SDO is released (`sdo`). The levels of the pins, which `filtered` and the level pair
follow, are log 1 too. -/
def Obligations.ResetState : Prop :=
  State.reset.station =
    { mode := .config, listenTimer := none, leaveTimer := none,
      cfg := { station := 0, syncBase := 0, syncMult := 10, limitL := 2000, limitS := 500,
               lineRate := 0, lineDelay := 0 } } ∧
  State.reset.time.lineTime = 0 ∧ State.reset.time.slew = 0 ∧ State.reset.time.peers = [] ∧
  State.reset.time.syncTimer = none ∧ State.reset.time.lastMedian = 0 ∧
  State.reset.time.lastInStep = true ∧ State.reset.time.outCount = 0 ∧
  State.reset.time.inCount = 0 ∧ State.reset.time.alone = false ∧
  State.reset.time.syncCount = 0 ∧ State.reset.time.prevEdge = none ∧
  State.reset.time.peerFullReported = false ∧
  State.reset.line.rx = .off ∧ State.reset.line.rxFrame = none ∧ State.reset.line.stuck = false ∧
  State.reset.line.stuckTime = 0 ∧
  State.reset.line.attempt = .waitGap ∧ State.reset.line.txq = [] ∧
  State.reset.line.rxErrors = 0 ∧ State.reset.line.txl = true ∧
  State.reset.disp.queue = [] ∧ State.reset.disp.current = none ∧
  (∀ r : Fin 32, State.reset.disp.bindings[r] =
    { event := 0, scope := .here, priority := 1, payloadFlag := false }) ∧
  (∀ i : Fin 64, State.reset.disp.subs[i] =
    { event := 0, filter := .any, policy := .every, action := .capture, armed := true }) ∧
  State.reset.sched = { entries := [], counter := 0 } ∧
  (∀ c : Fin 8,
    State.reset.chans[c].cfg =
      { direction := .input, filterMicros := 0, rest := false, checkDelay := 20,
        holdOffMillis := 100, autoRestore := false } ∧
    State.reset.chans[c].fifo = [] ∧ State.reset.chans[c].rises = 0 ∧
    State.reset.chans[c].falls = 0 ∧ State.reset.chans[c].lastCmd = false ∧
    State.reset.chans[c].cand = none ∧ State.reset.chans[c].out = none ∧
    State.reset.chans[c].mismatch = none ∧ State.reset.chans[c].holdOff = none ∧
    State.reset.chans[c].filtered = State.reset.chans[c].sensed) ∧
  State.reset.pos.cfg =
    { mode := .off, signA := .plus, signB := .minus,
      enc := { totalBits := 13, validBits := 13, coding := .binary, clock := .khz500,
               recoveryMicros := 30, check := .none } } ∧
  State.reset.pos.cntA = 0 ∧ State.reset.pos.cntB = 0 ∧ State.reset.pos.offset = 0 ∧
  State.reset.pos.quadErrors = 0 ∧ State.reset.pos.reader = .idle ∧
  State.reset.pos.pair0 = State.reset.chans[0].filtered ∧
  State.reset.pos.pair1 = State.reset.chans[1].filtered ∧
  State.reset.pos.shiftWord = [] ∧ State.reset.pos.shiftLeft = none ∧
  State.reset.pos.recovery = none ∧
  State.reset.pos.record = none ∧ State.reset.pos.absPos = 0 ∧ State.reset.pos.absStamp = none ∧
  (∀ k : Fin 2,
    State.reset.meas.cmpCfg[k] =
      { source := .incremental, origin := 0, margin := 0, maskBits := 32, strict := false,
        mode := .off, trueSlot := none, falseSlot := none } ∧
    State.reset.meas.cmpRun[k] = { last := none, spent := false }) ∧
  (∀ i : Fin 8,
    State.reset.meas.latches[i] =
      { value := 0, stamp := none, source := .incremental, isNew := false, overrun := false } ∧
    State.reset.meas.slots[i] =
      { value := 0, valid := false, saturated := false, occStamp := none, edge := none,
        restamped := false }) ∧
  State.reset.host.snapshot = 0 ∧ State.reset.host.tableSelect = 0 ∧
  State.reset.host.tableIndex = 0 ∧ State.reset.host.errorCode = .none ∧
  State.reset.host.status = { source := 0, outcome := .none, detail := 0 } ∧
  State.reset.host.reports = [] ∧ (∀ i : Fin 8, State.reset.host.params[i] = 0) ∧
  (∀ i : Fin 48, State.reset.host.staging[i] = 0) ∧
  (∀ i : Fin 8, State.reset.host.capture[i] = 0) ∧ State.reset.host.transaction = none ∧
  State.reset.host.sdo = none

/-- HARDWARE_RESET, in every state: each block takes its reset value, the pins keep the levels the
field gives them, and RESETN is asserted or released. -/
def Obligations.HardwareResetTaken : Prop :=
  ∀ (s : State) (e : ResetEdge), ∃ t, exec (.hardwareReset e) s = .next t ∧
    t.resetHeld = (e == .assert) ∧ t.station = State.reset.station ∧ t.time = State.reset.time ∧
    t.line = State.reset.line ∧ t.disp = State.reset.disp ∧ t.sched = State.reset.sched ∧
    t.meas = State.reset.meas ∧ t.host = State.reset.host ∧
    (∀ c : Fin 8, t.chans[c] =
      { State.reset.chans[c] with
        sensed := s.chans[c].sensed, filtered := s.chans[c].sensed }) ∧
    t.pos =
      { State.reset.pos with
        pair0 := s.chans[0].sensed, pair1 := s.chans[1].sensed, edat := s.pos.edat } ∧
    t.choices = s.choices ∧ t.pending = s.pending

/-- While RESETN is asserted, a command other than HARDWARE_RESET changes nothing, but for the level of
a pin; ECLK is not driven and INTN not asserted. That RESETN is held between two commands and that a pin's
transition then sets the levels and nothing else is the model's choice (log 7). -/
def Obligations.HeldInReset : Prop :=
  ∀ s : State, s.resetHeld = true →
    (∀ c : Instr, (∀ e, c ≠ .hardwareReset e) → (∀ n l, c ≠ .pinTransition n l) →
      exec c s = .next s) ∧
    (∀ (c : Fin 8) (l : Level), exec (.pinTransition c.val l) s =
      .next { s with chans := updVec s.chans c fun ch => { ch with sensed := l, filtered := l } }) ∧
    (∀ l : Level, exec (.pinTransition 8 l) s = .next { s with pos := { s.pos with edat := l } }) ∧
    s.eclk = none ∧ s.intnAsserted = false

/-! ### The station's life -/

/-- JOIN in CONFIG with every check passed: LISTEN. -/
def Obligations.JoinTaken : Prop :=
  ∀ s : State, s.resetHeld = false → s.station.mode = .config →
    s.station.cfg.station.toNat ≤ 63 → s.station.cfg.syncBase.toNat ≤ 2 →
    1 ≤ s.station.cfg.syncMult.toNat → s.station.cfg.syncMult.toNat ≤ 63 →
    1 ≤ s.station.cfg.limitS.toNat → s.station.cfg.limitS.toNat ≤ 4095 →
    s.station.cfg.limitS.toNat ≤ s.station.cfg.limitL.toNat →
    s.station.cfg.lineRate.toNat ≤ 2 →
    (s.pos.cfg.mode = .off ∨
      s.chans[0].cfg.direction = .input ∧ s.chans[1].cfg.direction = .input) →
    ∃ t, exec .join s = .next t ∧
      t.station =
        { s.station with mode := .listen, listenTimer := some (3 * s.station.cfg.period) } ∧
      t.time = { s.time with peers := [], peerFullReported := false } ∧
      t.line = { s.line with rx := .seeking, recessiveRun := 0, dominantRun := 0, rxErrors := 0 } ∧
      t.disp =
        { s.disp with subs := mapVec s.disp.subs fun _ e => { e with armed := true } } ∧
      (∀ i : Fin 64, t.disp.subs[i] = { s.disp.subs[i] with armed := true }) ∧
      t.host =
        { s.host.writing 0x28#7 with
          errorCode := .none
          status := { source := 1, outcome := .taken, detail := 0 }
          reports :=
            pushReport s.host.reports
              { body := .stateChange .listen .join, time := s.time.lineTime } } ∧
      t.sched = s.sched ∧ t.chans = s.chans ∧ t.pos = s.pos ∧ t.meas = s.meas ∧
      t.resetHeld = false ∧ t.choices = s.choices ∧ t.pending = s.pending

/-- JOIN in CONFIG with a failed check: the first that fails, in the manual's order, gives the code, and
nothing else changes. -/
def Obligations.JoinCheckFails : Prop :=
  ∀ s : State, s.resetHeld = false → s.station.mode = .config →
    let g := s.station.cfg
    let failed := fun (e : ConfigError) =>
      exec .join s =
        .next
          { s with
            host :=
              { s.host.writing 0x28#7 with
                errorCode := e
                status := { source := 1, outcome := .checkFailed, detail := e.code } } }
    let ok1 := g.station.toNat ≤ 63
    let ok2 := g.syncBase.toNat ≤ 2 ∧ 1 ≤ g.syncMult.toNat ∧ g.syncMult.toNat ≤ 63
    let ok3 := 1 ≤ g.limitL.toNat ∧ 1 ≤ g.limitS.toNat ∧ g.limitS.toNat ≤ 4095 ∧
      g.limitS.toNat ≤ g.limitL.toNat
    let ok4 := g.lineRate.toNat ≤ 2
    let ok5 := s.pos.cfg.mode = .off ∨
      s.chans[0].cfg.direction = .input ∧ s.chans[1].cfg.direction = .input
    (¬ok1 → failed .joinStation) ∧
    (ok1 → ¬ok2 → failed .joinSync) ∧
    (ok1 → ok2 → ¬ok3 → failed .joinLimits) ∧
    (ok1 → ok2 → ok3 → ¬ok4 → failed .joinRate) ∧
    (ok1 → ok2 → ok3 → ok4 → ¬ok5 → failed .joinPosition)

/-- A command outside its states is refused with the station state, and a parameter out of its range, or
a value that names no command, gives BAD_PARAMETER; nothing else changes. JOIN is refused outside CONFIG,
LEAVE in CONFIG and LEAVING, REARM_SUB, REARM_CMP and INJECT outside ACTIVE and DRIFTED. -/
def Obligations.CommandsRefused : Prop :=
  (∀ s : State, s.resetHeld = false →
     let refused := fun (c : Instr) (value : Byte) =>
       exec c s =
         .next
           { s with
             host :=
               { s.host.writing 0x28#7 with
                 status :=
                   { source := value, outcome := .refused, detail := s.station.mode.code } } }
     let closed := s.station.mode ≠ .active ∧ s.station.mode ≠ .drifted
     (s.station.mode ≠ .config → refused .join 1) ∧
     (s.station.mode = .config ∨ s.station.mode = .leaving → refused .leave 2) ∧
     (closed → refused .rearmSub 4 ∧ refused .rearmCmp 5 ∧ refused .inject 7)) ∧
  (∀ s : State, s.resetHeld = false →
     let bad := fun (value : Byte) =>
       ({ s with
         host :=
           { s.host.writing 0x28#7 with
             status := { source := value, outcome := .badParameter, detail := 0 } } } : State)
     (s.isOpen = true → 63 < (paramByte s 0).toNat → exec .rearmSub s = .next (bad 4)) ∧
     (s.isOpen = true → 1 < (paramByte s 0).toNat → exec .rearmCmp s = .next (bad 5)) ∧
     (7 < (paramByte s 0).toNat → exec .restore s = .next (bad 6)) ∧
     (s.isOpen = true →
       (injectEvent s = 0 ∨ 4095 < (injectEvent s).toNat ∨
         injectScope s = .line ∧ injectPriority s = 0) →
       exec .inject s = .next (bad 7)) ∧
     (∀ value : Byte, value = 0 ∨ 7 < value.toNat →
       exec (.registerWrite 0x28 (some value)) s = .next (bad value))) ∧
  [StationMode.config, .listen, .active, .drifted, .leaving].map StationMode.code = [0, 1, 2, 3, 4]

/-- LEAVE in LISTEN, ACTIVE and DRIFTED: LEAVING, the dispatch ended, a request handed on left under way
(log 30), the schedule flushed, the outputs at their rest levels, the sync timer stopped, a waiting own SYNC
withdrawn. -/
def Obligations.LeaveTaken : Prop :=
  ∀ s : State, s.resetHeld = false →
    s.station.mode = .listen ∨ s.station.mode = .active ∨ s.station.mode = .drifted →
    ∃ t, exec .leave s = .next t ∧
      t.station =
        { s.station with
          mode := .leaving, listenTimer := none
          leaveTimer := some (4 * s.station.cfg.period) } ∧
      t.disp = { s.disp with queue := [], current := none, scanPos := 0 } ∧
      t.sched = { s.sched with entries := [] } ∧
      t.time = { s.time with syncTimer := none, slew := 0 } ∧
      t.line = { s.line with txq := s.line.txq.filter fun n => !(n.isSync && !n.inTx) } ∧
      (∀ c : Fin 8, s.chans[c].cfg.direction = .input → t.chans[c] = s.chans[c]) ∧
      (∀ c : Fin 8, s.chans[c].cfg.direction = .output →
        t.chans[c] =
          { s.chans[c] with
            lastCmd := s.chans[c].cfg.rest
            mismatch :=
              if s.chans[c].out = some .enabled then
                if s.chans[c].sensed = s.chans[c].cfg.rest then none
                else some (s.chans[c].mismatch.getD (100 * s.chans[c].cfg.checkDelay.toNat))
              else s.chans[c].mismatch }) ∧
      t.host =
        { s.host.writing 0x28#7 with
          status := { source := 2, outcome := .taken, detail := 0 }
          reports :=
            pushReport
              (pushReport s.host.reports
                { body := .scheduleFlushed s.sched.entries.length, time := s.time.lineTime })
              { body := .stateChange .leaving .leave, time := s.time.lineTime } } ∧
      t.pos = s.pos ∧ t.meas = s.meas ∧ t.resetHeld = false ∧ t.choices = s.choices ∧
      t.pending = s.pending

/-- RESTART in every station state: CONFIG, with what each block keeps and loses; a request handed on stays
under way (log 30). -/
def Obligations.RestartTaken : Prop :=
  ∀ s : State, s.resetHeld = false →
    ∃ t, exec .restart s = .next t ∧
      t.station = { s.station with mode := .config, listenTimer := none, leaveTimer := none } ∧
      t.time = { TimeUnit.reset with lineTime := s.time.lineTime } ∧
      t.line =
        { s.line with
          rx := .off, rxFrame := none, stuck := false, attempt := .waitGap, attemptBytes := []
          txq := [], rxErrors := 0, txl := true, txClock := none, awaitGap := false } ∧
      t.disp.queue = [] ∧ t.disp.current = none ∧ t.disp.underWay = s.disp.underWay ∧
      t.disp.bindings = s.disp.bindings ∧
      (∀ i : Fin 64, t.disp.subs[i] = { s.disp.subs[i] with armed := true }) ∧
      t.sched = { entries := [], counter := 0 } ∧
      (∀ c : Fin 8, t.chans[c].fifo = [] ∧ t.chans[c].cfg = s.chans[c].cfg ∧
        t.chans[c].out = s.chans[c].out ∧ t.chans[c].rises = s.chans[c].rises ∧
        t.chans[c].falls = s.chans[c].falls ∧ t.chans[c].sensed = s.chans[c].sensed ∧
        t.chans[c].filtered = s.chans[c].filtered ∧ t.chans[c].cand = s.chans[c].cand ∧
        t.chans[c].holdOff = s.chans[c].holdOff ∧
        (s.chans[c].cfg.direction = .input →
          t.chans[c].lastCmd = s.chans[c].lastCmd ∧ t.chans[c].mismatch = s.chans[c].mismatch) ∧
        (s.chans[c].cfg.direction = .output →
          t.chans[c].lastCmd = s.chans[c].cfg.rest ∧
          t.chans[c].mismatch =
            if s.chans[c].out = some .enabled then
              if s.chans[c].sensed = s.chans[c].cfg.rest then none
              else some (s.chans[c].mismatch.getD (100 * s.chans[c].cfg.checkDelay.toNat))
            else s.chans[c].mismatch)) ∧
      t.pos = s.pos.abandonRead ∧
      (∀ r, s.pos.reader = .shifting → s.pos.record = some r →
        t.pos.reader = .recovery ∧ t.pos.shiftWord = [] ∧ t.pos.record = some r ∧
        t.pos.recovery = some (100 * r.enc.recoveryMicros.toNat) ∧
        t.pos.absPos = s.pos.absPos ∧ t.pos.absStamp = s.pos.absStamp) ∧
      (s.pos.reader ≠ .shifting → t.pos = s.pos) ∧
      t.meas.cmpCfg = s.meas.cmpCfg ∧ t.meas.latches = s.meas.latches ∧
      t.meas.slots = s.meas.slots ∧
      (∀ k : Fin 2, t.meas.cmpRun[k] = { last := none, spent := false }) ∧
      t.host =
        { s.host.writing 0x28#7 with
          status := { source := 3, outcome := .taken, detail := 0 }
          reports :=
            [{ body := .scheduleFlushed s.sched.entries.length, time := s.time.lineTime },
              { body := .stateChange .config .restart, time := s.time.lineTime }] } ∧
      t.resetHeld = false ∧ t.choices = s.choices ∧ t.pending = s.pending

/-- REARM_SUB and REARM_CMP in ACTIVE and DRIFTED, and RESTORE in every station state, with a parameter
in range; RESTORE of a channel that is not DISABLED is refused with its output state. -/
def Obligations.RearmAndRestoreTaken : Prop :=
  ∀ s : State, s.resetHeld = false →
    let status := fun (value : Byte) (o : CmdOutcome) (d : Byte) =>
      { s.host.writing 0x28#7 with status := { source := value, outcome := o, detail := d } }
    (s.isOpen = true → ∀ i : Fin 64, (paramByte s 0).toNat = i.val →
      exec .rearmSub s =
        .next
          { s with
            disp :=
              { s.disp with subs := updVec s.disp.subs i fun e => { e with armed := true } }
            host := status 4 .taken 0 }) ∧
    (s.isOpen = true → ∀ k : Fin 2, (paramByte s 0).toNat = k.val →
      exec .rearmCmp s =
        .next
          { s with
            meas :=
              { s.meas with
                cmpRun := updVec s.meas.cmpRun k fun _ => { last := none, spent := false } }
            host := status 5 .taken 0 }) ∧
    (∀ c : Fin 8, (paramByte s 0).toNat = c.val →
      (s.chans[c].out = some .disabled →
        exec .restore s =
          .next
            { s with
              chans :=
                updVec s.chans c fun ch =>
                  { ch with
                    out := some .enabled, holdOff := none
                    mismatch :=
                      if ch.sensed = ch.lastCmd then none
                      else some (100 * ch.cfg.checkDelay.toNat) }
              host :=
                { status 6 .taken 0 with
                  reports :=
                    pushReport s.host.reports
                      { body := .outputRestored c .host, time := s.time.lineTime } } }) ∧
      (s.chans[c].out = some .enabled →
        exec .restore s = .next { s with host := status 6 .refused 8 }) ∧
      (s.chans[c].out = some .heldOff →
        exec .restore s = .next { s with host := status 6 .refused 9 }) ∧
      (s.chans[c].out = none →
        exec .restore s = .next { s with host := status 6 .refused 10 }))

/-- INJECT in ACTIVE and DRIFTED with its parameters in range: one occurrence, to the dispatch queue or
the transmit queue, or the report of its loss where the queue is full. -/
def Obligations.InjectTaken : Prop :=
  ∀ s : State, s.resetHeld = false → s.isOpen = true →
    1 ≤ (injectEvent s).toNat → (injectEvent s).toNat ≤ 4095 →
    let o : Occurrence :=
      { event := (injectEvent s).setWidth 12, stamp := s.time.lineTime, origin := .hostPort,
        gen := 0, payload := injectPayload s, restamped := false }
    let h := { s.host.writing 0x28#7 with status := { source := 7, outcome := .taken, detail := 0 } }
    let reported := fun (b : ReportBody) =>
      { h with reports := pushReport s.host.reports { body := b, time := s.time.lineTime } }
    (injectScope s = .here →
      (s.disp.queue.length < 8 →
        exec .inject s =
          .next { s with disp := { s.disp with queue := s.disp.queue ++ [o] }, host := h }) ∧
      (8 ≤ s.disp.queue.length →
        exec .inject s =
          .next { s with host := reported (.dispatchOverflow o.event .hostPort) })) ∧
    (injectScope s = .line → injectPriority s ≠ 0 →
      (sharedCount s.line.txq < 15 →
        exec .inject s =
          .next
            { s with
              line :=
                { s.line with
                  txq :=
                    placeNotice
                      { body := .event o, priority := injectPriority s, errored := 0,
                        inTx := false }
                      s.line.txq }
              host := h }) ∧
      (15 ≤ sharedCount s.line.txq →
        exec .inject s = .next { s with host := reported (.eventLost o.event .queueFull) }))

/-! ### The table window -/

/-- STORE in CONFIG of a station configuration, a binding row, a subscription entry or a comparator's
configuration: the record is written, or refused with the code of the first failed check and left as it was.
What the checks read of the staging area, in which order they are made, which code each gives, and the record
that passes them: binding rows, subscription entries with every action kind, comparators. The order of a
check's parts that give one and the same code shows nowhere. -/
def Obligations.StoreOfTables : Prop :=
  (∀ (s : State) (value : Byte), s.resetHeld = false → s.station.mode = .config →
    let v := s.host.staging
    let taken :=
      { s.host.writing 0x2B#7 with
        errorCode := .none, status := { source := 0x40, outcome := .taken, detail := 0 } }
    let failed := fun (e : ConfigError) =>
      { s.host.writing 0x2B#7 with
        errorCode := e
        status := { source := 0x40, outcome := .checkFailed, detail := e.code } }
    (s.selectedTable = 0 → s.host.tableIndex = 0 →
      exec (.store value) s =
        .next
          { s with
            station :=
              { s.station with
                cfg :=
                  { station := stByte v 0, syncBase := stByte v 1, syncMult := stByte v 2
                    limitL := stWord16 v 3, limitS := stWord16 v 5, lineRate := stByte v 7
                    lineDelay := stByte v 8 } }
            host := taken }) ∧
    (s.selectedTable = 1 → ∀ r : Fin 32, s.host.tableIndex.toNat = r.val →
      (∀ b, checkBinding v r = .ok b →
        exec (.store value) s =
          .next
            { s with
              disp := { s.disp with bindings := updVec s.disp.bindings r fun _ => b }
              host := taken }) ∧
      (∀ e, checkBinding v r = .error e →
        exec (.store value) s = .next { s with host := failed e })) ∧
    (s.selectedTable = 2 → ∀ i : Fin 64, s.host.tableIndex.toNat = i.val →
      (∀ x, checkSub v = .ok x →
        exec (.store value) s =
          .next
            { s with
              disp := { s.disp with subs := updVec s.disp.subs i fun _ => x }
              host := taken }) ∧
      (∀ e, checkSub v = .error e →
        exec (.store value) s = .next { s with host := failed e })) ∧
    (s.selectedTable = 3 → ∀ k : Fin 2, s.host.tableIndex.toNat = k.val →
      (∀ g, checkCmp v = .ok g →
        exec (.store value) s =
          .next
            { s with
              meas :=
                { s.meas with
                  cmpCfg := updVec s.meas.cmpCfg k fun _ => g
                  cmpRun := updVec s.meas.cmpRun k fun _ => { last := none, spent := false } }
              host := taken }) ∧
      (∀ e, checkCmp v = .error e →
        exec (.store value) s = .next { s with host := failed e }))) ∧
  (∀ v : Vector Byte 48,
    let byte := stByte v
    let word := stWord16 v
    let long := stWord32 v
    let scope := fun (line : Bool) => if line then Scope.line else .here
    let place := fun (b : Byte) => (⟨b.toNat % 8, Nat.mod_lt _ (by decide)⟩ : Fin 8)
    let descOk := fun (i : Nat) =>
      (byte i).getLsbD 0 = true →
        1 ≤ (word (i + 1)).toNat ∧ (word (i + 1)).toNat ≤ 4095 ∧
          ((byte i).getLsbD 1 = true → (byte i).extractLsb' 4 3 ≠ 0)
    let desc := fun (i : Nat) =>
      if (byte i).getLsbD 0 then
        some
          ({ event := (word (i + 1)).setWidth 12, scope := scope ((byte i).getLsbD 1)
             priority := (byte i).extractLsb' 4 3 } : EventDesc)
      else none
    (∀ i : Fin 48, byte i = v[i]) ∧
    (∀ i, (word i).toNat = (byte i).toNat + 2 ^ 8 * (byte (i + 1)).toNat) ∧
    (∀ i, (long i).toNat = (word i).toNat + 2 ^ 16 * (word (i + 2)).toNat) ∧
    (∀ r : Fin 32,
      let ok1 := (word 0).toNat ≤ 4095
      let ok2 := (byte 2).getLsbD 0 = true → 1 ≤ (byte 3).toNat ∧ (byte 3).toNat ≤ 7
      let ok3 := (byte 4).getLsbD 0 = true → r.val = 24 ∨ r.val = 27 ∨ 28 ≤ r.val
      (¬ok1 → checkBinding v r = .error .bindEvent) ∧
      (ok1 → ¬ok2 → checkBinding v r = .error .bindPriority) ∧
      (ok1 → ok2 → ¬ok3 → checkBinding v r = .error .bindPayload) ∧
      (ok1 → ok2 → ok3 →
        checkBinding v r =
          .ok
            { event := (word 0).setWidth 12, scope := scope ((byte 2).getLsbD 0)
              priority := byte 3, payloadFlag := (byte 4).getLsbD 0 })) ∧
    (word 0 = 0 →
      checkSub v =
        .ok { event := 0, filter := .any, policy := .every, action := .capture, armed := true }) ∧
    (word 0 ≠ 0 →
      let ok1 := (word 0).toNat ≤ 4095
      let ok2 := (byte 2).toNat ≤ 2 ∨ byte 2 = 3 ∧ (byte 3).toNat ≤ 63
      let ok3 := (byte 4).toNat ≤ 1
      let ok4 := (byte 5).toNat ≤ 6
      let entry := fun (a : Action) =>
        (.ok
          { event := (word 0).setWidth 12
            filter :=
              if byte 2 = 0 then .any
              else if byte 2 = 1 then .inside
              else if byte 2 = 2 then .line
              else .station ((byte 3).setWidth 6)
            policy := if byte 4 = 0 then .every else .once, action := a, armed := true } :
          Checked SubEntry)
      (¬ok1 → checkSub v = .error .subEvent) ∧
      (ok1 → ¬ok2 → checkSub v = .error .subFilter) ∧
      (ok1 → ok2 → ¬ok3 → checkSub v = .error .subPolicy) ∧
      (ok1 → ok2 → ok3 → ¬ok4 → checkSub v = .error .subKind) ∧
      (ok1 → ok2 → ok3 →
        (byte 5 = 0 →
          let w := (long 10).toNat
          let k := (byte 18).toNat
          let m := (byte 19).toNat
          let s := (long 20).toNat
          let t := (long 24).toNat
          let ok5 := (byte 28).toNat ≤ 15 ∧ 1 ≤ k ∧ 1 ≤ m ∧ w < 2 ^ 24 ∧ s < 2 ^ 24
          let ok8 := 0 < w ∨ byte 8 ≠ 0
          let ok9 := 1 < k → w < s
          let ok10 := 1 < m → (1 < k → k * s ≤ t) ∧ (k = 1 → w < t)
          (¬ok5 → checkSub v = .error .subRange) ∧
          (ok5 → ¬ok8 → checkSub v = .error .driveNothing) ∧
          (ok5 → ok8 → ¬ok9 → checkSub v = .error .driveWidth) ∧
          (ok5 → ok8 → ok9 → ¬ok10 → checkSub v = .error .driveOuter) ∧
          (ok5 → ok8 → ok9 → ok10 → ¬descOk 29 → checkSub v = .error .subEndEvent) ∧
          (ok5 → ok8 → ok9 → ok10 → descOk 29 →
            checkSub v =
              entry
                (.drive
                  { mask := byte 8, onLevels := byte 9, width := (long 10).setWidth 24
                    delay := long 14, innerCount := byte 18
                    innerSpacing := (long 20).setWidth 24, outerCount := byte 19
                    outerSpacing := long 24, tag := (byte 28).setWidth 4
                    endEvent := desc 29 }))) ∧
        (byte 5 = 1 →
          (15 < (byte 8).toNat → checkSub v = .error .subRange) ∧
          ((byte 8).toNat ≤ 15 → checkSub v = entry (.cancel ((byte 8).setWidth 4)))) ∧
        (byte 5 = 2 →
          let ok5 := (byte 8).toNat ≤ 1 ∧ (byte 9).toNat ≤ 7
          (¬ok5 → checkSub v = .error .subRange) ∧
          (ok5 → ¬descOk 10 → checkSub v = .error .subEndEvent) ∧
          (ok5 → descOk 10 →
            checkSub v =
              entry
                (.latch (if byte 8 = 0 then .incremental else .absolute) (place (byte 9))
                  (desc 10)))) ∧
        (byte 5 = 3 → checkSub v = entry .capture) ∧
        (byte 5 = 4 →
          (1 < (byte 8).toNat → checkSub v = .error .subRange) ∧
          ((byte 8).toNat ≤ 1 →
            checkSub v = entry (.compare (if byte 8 = 0 then 0 else 1)))) ∧
        (byte 5 = 5 →
          let ok5 := (byte 8).toNat ≤ 7 ∧ (byte 9).toNat ≤ 2 ∧ (byte 10).toNat ≤ 15 ∧
            (byte 11).toNat ≤ 7
          (¬ok5 → checkSub v = .error .subRange) ∧
          (ok5 →
            checkSub v =
              entry
                (.measure (place (byte 8))
                  (if byte 9 = 0 then .rise else if byte 9 = 1 then .fall else .either)
                  ((byte 10).setWidth 4) (place (byte 11))))) ∧
        (byte 5 = 6 → checkSub v = entry (.preset (long 8))))) ∧
    (let ok := (byte 0).toNat ≤ 1 ∧ (byte 1).toNat ≤ 3 ∧ 1 ≤ (byte 2).toNat ∧
       (byte 2).toNat ≤ 32 ∧ ((byte 12).toNat ≤ 7 ∨ byte 12 = 0xFF) ∧
       ((byte 13).toNat ≤ 7 ∨ byte 13 = 0xFF)
     let slot := fun (b : Byte) => if b = 0xFF then none else some (place b)
     (¬ok → checkCmp v = .error .cmpRange) ∧
     (ok →
       checkCmp v =
         .ok
           { source := if byte 0 = 0 then .incremental else .absolute
             mode :=
               if byte 1 = 0 then .off
               else if byte 1 = 1 then .once
               else if byte 1 = 2 then .change
               else .every
             maskBits := byte 2, strict := (byte 3).getLsbD 0, origin := long 4, margin := long 8
             trueSlot := slot (byte 12), falseSlot := slot (byte 13) }))) ∧
  [ConfigError.none, .bindEvent, .bindPriority, .bindPayload, .subEvent, .subFilter, .subPolicy,
      .subKind, .subRange, .driveNothing, .driveWidth, .driveOuter, .subEndEvent, .cmpRange,
      .chanRange, .posRange, .tableIndex, .joinStation, .joinSync, .joinLimits, .joinRate,
      .joinPosition].map ConfigError.code =
    (List.range 22).map (BitVec.ofNat 8)

/-- STORE in CONFIG of a channel's or the position configuration takes effect at once: the four changes
of direction, and the cleared counting side where the position mode changes. What the checks of the two
tables read of the staging area, which records they accept, and the one code that each table has. -/
def Obligations.StoreTakesEffect : Prop :=
  (∀ (s : State) (value : Byte), s.resetHeld = false → s.station.mode = .config →
    let v := s.host.staging
    let taken :=
      { s.host.writing 0x2B#7 with
        errorCode := .none, status := { source := 0x40, outcome := .taken, detail := 0 } }
    let failed := fun (e : ConfigError) =>
      { s.host.writing 0x2B#7 with
        errorCode := e
        status := { source := 0x40, outcome := .checkFailed, detail := e.code } }
    (s.selectedTable = 4 → ∀ c : Fin 8, s.host.tableIndex.toNat = c.val →
      (∀ g, checkChan v = .ok g → ∃ t,
        exec (.store value) s = .next { s with chans := t, host := taken } ∧
        (∀ d : Fin 8, d ≠ c → t[d] = s.chans[d]) ∧
        t[c].cfg = g ∧ t[c].sensed = s.chans[c].sensed ∧ t[c].filtered = s.chans[c].filtered ∧
        t[c].cand = s.chans[c].cand ∧ t[c].fifo = s.chans[c].fifo ∧
        t[c].rises = s.chans[c].rises ∧ t[c].falls = s.chans[c].falls ∧
        (s.chans[c].cfg.direction = .input → g.direction = .input →
          t[c] = { s.chans[c] with cfg := g }) ∧
        (s.chans[c].cfg.direction = .input → g.direction = .output →
          t[c].out = some .enabled ∧ t[c].lastCmd = g.rest ∧ t[c].holdOff = none ∧
          t[c].mismatch =
            (if s.chans[c].sensed = g.rest then none else some (100 * g.checkDelay.toNat))) ∧
        (s.chans[c].cfg.direction = .output → g.direction = .input →
          t[c].out = none ∧ t[c].lastCmd = s.chans[c].lastCmd ∧ t[c].mismatch = none ∧
          t[c].holdOff = none) ∧
        (s.chans[c].cfg.direction = .output → g.direction = .output →
          t[c].out = s.chans[c].out ∧ t[c].lastCmd = g.rest ∧
          t[c].holdOff = s.chans[c].holdOff ∧
          t[c].mismatch =
            if s.chans[c].out = some .enabled then
              if s.chans[c].sensed = g.rest then none
              else some (s.chans[c].mismatch.getD (100 * g.checkDelay.toNat))
            else s.chans[c].mismatch)) ∧
      (∀ e, checkChan v = .error e →
        exec (.store value) s = .next { s with host := failed e })) ∧
    (s.selectedTable = 5 → s.host.tableIndex = 0 →
      (∀ g, checkPos v = .ok g →
        (g.mode = s.pos.cfg.mode →
          exec (.store value) s =
            .next { s with pos := { s.pos with cfg := g }, host := taken }) ∧
        (g.mode ≠ s.pos.cfg.mode →
          exec (.store value) s =
            .next
              { s with
                pos :=
                  { s.pos with
                    cfg := g, cntA := 0, cntB := 0, offset := 0, quadErrors := 0
                    pair0 := s.chans[0].filtered, pair1 := s.chans[1].filtered }
                host := taken })) ∧
      (∀ e, checkPos v = .error e →
        exec (.store value) s = .next { s with host := failed e }))) ∧
  (∀ v : Vector Byte 48,
    let byte := stByte v
    (let ok := (byte 1).toNat ≤ 63 ∧ byte 3 ≠ 0 ∧ byte 4 ≠ 0
     (¬ok → checkChan v = .error .chanRange) ∧
     (ok →
       checkChan v =
         .ok
           { direction := if (byte 0).getLsbD 0 then .output else .input, filterMicros := byte 1
             rest := (byte 2).getLsbD 0, checkDelay := byte 3, holdOffMillis := byte 4
             autoRestore := (byte 5).getLsbD 0 })) ∧
    (let signOk := fun (b : Byte) => b = 0xFF ∨ b = 0 ∨ b = 1
     let sign := fun (b : Byte) => if b = 0xFF then Sign.minus else if b = 0 then .zero else .plus
     let ok := (byte 0).toNat ≤ 3 ∧ signOk (byte 1) ∧ signOk (byte 2) ∧ 8 ≤ (byte 3).toNat ∧
       (byte 3).toNat ≤ 32 ∧ 1 ≤ (byte 4).toNat ∧ (byte 4).toNat ≤ (byte 3).toNat ∧
       (byte 5).toNat ≤ 1 ∧ (byte 6).toNat ≤ 3 ∧ byte 7 ≠ 0 ∧ (byte 8).toNat ≤ 2
     (¬ok → checkPos v = .error .posRange) ∧
     (ok →
       checkPos v =
         .ok
           { mode :=
               if byte 0 = 0 then .off
               else if byte 0 = 1 then .edge
               else if byte 0 = 2 then .quadrature
               else .updown
             signA := sign (byte 1), signB := sign (byte 2)
             enc :=
               { totalBits := byte 3, validBits := byte 4
                 coding := if byte 5 = 0 then .binary else .gray
                 clock :=
                   if byte 6 = 0 then .mhz1
                   else if byte 6 = 1 then .khz500
                   else if byte 6 = 2 then .khz250
                   else .khz125
                 recoveryMicros := byte 7
                 check :=
                   if byte 8 = 0 then .none else if byte 8 = 1 then .high else .low } })))

/-- A STORE outside CONFIG or of a table that is not one of 0 to 5 is ignored with ACCESS_REFUSED; one
in CONFIG whose index is outside its table's range is refused with TABLE_INDEX. That a select value of 13 to
15, which names no table, gives ACCESS_REFUSED too is the model's choice (log 34). -/
def Obligations.StoreRefused : Prop :=
  ∀ (s : State) (value : Byte), s.resetHeld = false →
    (s.station.mode ≠ .config ∨ 5 < s.selectedTable →
      exec (.store value) s =
        .next
          { s with
            host :=
              { s.host.writing 0x2B#7 with
                status := { source := 0x40, outcome := .accessRefused, detail := 0x2B } } }) ∧
    (s.station.mode = .config →
      (s.selectedTable = 0 ∧ 0 < s.host.tableIndex.toNat ∨
        s.selectedTable = 1 ∧ 31 < s.host.tableIndex.toNat ∨
        s.selectedTable = 2 ∧ 63 < s.host.tableIndex.toNat ∨
        s.selectedTable = 3 ∧ 1 < s.host.tableIndex.toNat ∨
        s.selectedTable = 4 ∧ 7 < s.host.tableIndex.toNat ∨
        s.selectedTable = 5 ∧ 0 < s.host.tableIndex.toNat) →
      exec (.store value) s =
        .next
          { s with
            host :=
              { s.host.writing 0x2B#7 with
                errorCode := .tableIndex
                status := { source := 0x40, outcome := .checkFailed, detail := 16 } } })

/-- A write to the table data at 0x30 + offset writes the byte of the staging area that page and address
name, in CONFIG with a table of 0 to 5 selected; else it is ignored with ACCESS_REFUSED. -/
def Obligations.TableDataWritten : Prop :=
  ∀ (s : State) (offset : Nat) (value : Byte), s.resetHeld = false → offset < 24 →
    (s.station.mode = .config → s.selectedTable ≤ 5 →
      ∃ w, exec (.tableData offset value) s =
          .next { s with host := { s.host.writing (BitVec.ofNat 7 (0x30 + offset)) with staging := w } } ∧
        (s.host.tableSelect.getLsbD 7 = false → stByte w offset = value ∧
          ∀ i, i ≠ offset → stByte w i = stByte s.host.staging i) ∧
        (s.host.tableSelect.getLsbD 7 = true → stByte w (24 + offset) = value ∧
          ∀ i, i ≠ 24 + offset → stByte w i = stByte s.host.staging i)) ∧
    (s.station.mode ≠ .config ∨ 5 < s.selectedTable →
      exec (.tableData offset value) s =
        .next
          { s with
            host :=
              { s.host.writing (BitVec.ofNat 7 (0x30 + offset)) with
                status :=
                  { source := 0x80, outcome := .accessRefused
                    detail := BitVec.ofNat 8 (0x30 + offset) } } })

/-- A write to the table index loads the staging area with the record of the selected table, in every
station state; a load of a latch slot clears its two flags, and no other load changes anything else. What the
staging area then shows: for the configuration tables the record that a STORE of it would read; for the views
and slots their layouts, byte by byte; and zeros for a record that is not present and for an index or a select
value that names none. The peer records stand as the table is held (log 22). -/
def Obligations.TableIndexLoads : Prop :=
  (∀ (s : State) (value : Byte), s.resetHeld = false →
    let h :=
      { s.host.writing 0x2A#7 with
        tableIndex := value
        staging := stagingOf (s.recordBytes s.selectedTable value.toNat) }
    (s.selectedTable ≠ 8 ∨ 7 < value.toNat →
      exec (.tableIndex value) s = .next { s with host := h }) ∧
    (s.selectedTable = 8 → ∀ i : Fin 8, value.toNat = i.val →
      exec (.tableIndex value) s =
        .next
          { s with
            meas :=
              { s.meas with
                latches :=
                  updVec s.meas.latches i fun l => { l with isNew := false, overrun := false } }
            host := h }) ∧
    s.selectedTable = s.host.tableSelect.toNat % 16) ∧
  (∀ s : State,
    let shown := fun (table index : Nat) => stByte (stagingOf (s.recordBytes table index))
    let num := fun (f : Nat → Byte) (i n : Nat) =>
      ((List.range n).map fun j => (f (i + j)).toNat * 256 ^ j).sum
    let time := fun (t : Option LineTime) => (t.getD 0).toNat
    let blank := fun (f : Nat → Byte) (i n : Nat) => ∀ j, i ≤ j → j < n → f j = 0
    (∀ v : Vector Byte 48, stagingOf v.toList = v) ∧
    s.recordBytes 0 0 = s.station.cfg.bytes ∧
    (∀ r : Fin 32, s.recordBytes 1 r = s.disp.bindings[r].bytes) ∧
    (∀ i : Fin 64, s.recordBytes 2 i = s.disp.subs[i].bytes ∧
      (shown 2 i 6).toNat = s.disp.subs[i].armed.toNat) ∧
    (∀ k : Fin 2, s.recordBytes 3 k = s.meas.cmpCfg[k].bytes) ∧
    (∀ c : Fin 8, s.recordBytes 4 c = s.chans[c].cfg.bytes) ∧
    s.recordBytes 5 0 = s.pos.cfg.bytes ∧
    (let f := shown 6 0
     let t := s.time
     num f 0 1 = t.peers.length % 256 ∧
     (f 1).toNat = t.lastInStep.toNat + 2 * t.alone.toNat + 4 * t.prevEdge.isSome.toNat ∧
     num f 2 1 = t.outCount % 256 ∧ num f 3 1 = t.inCount % 256 ∧ f 4 = t.syncCount ∧ f 5 = 0 ∧
     num f 6 6 = time t.prevEdge ∧ num f 12 6 = t.lastMedian.toNat ∧
     num f 18 2 = (BitVec.ofInt 16 t.slew).toNat ∧ blank f 20 48) ∧
    (∀ (k : Nat) (r : PeerRecord), s.time.peers[k]? = some r →
      let f := shown 6 (k + 1)
      let offset : Nat × BitVec 48 :=
        match r.offset with | .absent => (0, 0) | .fresh v => (1, v) | .used v => (2, v)
      num f 0 1 = r.station.toNat ∧ (f 1).toNat = r.synced.toNat + 2 * offset.1 + 128 ∧
      f 2 = r.seq ∧ num f 3 1 = r.age % 256 ∧ num f 4 6 = r.stamp.toNat ∧
      num f 10 6 = offset.2.toNat ∧ blank f 16 48) ∧
    (let f := shown 7 0
     num f 0 1 = s.sched.entries.length % 256 ∧ blank f 1 4 ∧
     num f 4 4 = s.sched.counter.toNat ∧ blank f 8 48) ∧
    (∀ (k : Nat) (e : SchedEntry), s.sched.entries[k]? = some e →
      let f := shown 7 (k + 1)
      (f 0).toNat =
        1 + 2 * (e.phase == .off).toNat + 4 * e.late.toNat + 8 * e.causeRestamped.toNat +
          16 * e.causeGen.toNat ∧
      f 1 = e.mask ∧ f 2 = e.onLevels ∧ num f 3 1 = e.tag.toNat ∧
      num f 4 1 = e.originEntry.val ∧ f 5 = e.innerRem ∧ f 6 = e.innerCount ∧ f 7 = e.outerRem ∧
      f 8 = e.suppressed ∧ num f 9 2 = e.event.toNat ∧
      (e.endEvent = none → blank f 11 14) ∧
      (∀ d, e.endEvent = some d →
        (f 11).toNat = 1 + 2 * (d.scope == .line).toNat + 16 * d.priority.toNat ∧
        num f 12 2 = d.event.toNat) ∧
      num f 14 6 = e.due.toNat ∧ num f 20 6 = e.burstStart.toNat ∧
      num f 26 6 = e.trainStart.toNat ∧ num f 32 3 = e.width.toNat ∧
      num f 35 3 = e.innerSpacing.toNat ∧ num f 38 4 = e.outerSpacing.toNat ∧
      num f 42 4 = e.seq.toNat ∧ blank f 46 48) ∧
    (∀ i : Fin 8,
      let f := shown 8 i
      let l := s.meas.latches[i]
      (f 0).toNat =
        l.isNew.toNat + 2 * l.overrun.toNat + 4 * (l.source == .absolute).toNat +
          8 * l.stamp.isSome.toNat ∧
      blank f 1 4 ∧ num f 4 4 = l.value.toNat ∧ num f 8 6 = time l.stamp ∧ blank f 14 48) ∧
    (∀ i : Fin 8,
      let f := shown 9 i
      let m := s.meas.slots[i]
      (f 0).toNat =
        m.valid.toNat + 2 * m.saturated.toNat + 4 * m.restamped.toNat +
          8 * m.occStamp.isSome.toNat + 16 * m.edge.isSome.toNat +
          32 * (m.edge.any fun e => e.kind == .fall).toNat ∧
      blank f 1 4 ∧ num f 4 4 = m.value.toNat ∧ num f 8 6 = time m.occStamp ∧
      num f 14 6 = time (m.edge.map fun e => e.stamp) ∧ blank f 20 48) ∧
    (∀ i : Fin 8,
      let f := shown 10 i
      let c := s.chans[i]
      (f 0).toNat = (c.cfg.direction == .output).toNat ∧
      f 1 =
        (match c.out with
         | some .enabled => 0 | some .heldOff => 1 | some .disabled => 2 | none => 3) ∧
      (f 2).toNat =
        c.lastCmd.toNat + 2 * (c.out == some .enabled).toNat + 4 * c.sensed.toNat +
          8 * c.filtered.toNat + 16 * c.fifo.head?.isSome.toNat +
          32 * (c.fifo.head?.any fun e => e.kind == .fall).toNat ∧
      f 3 = c.rises ∧ f 4 = c.falls ∧ num f 5 1 = c.fifo.length % 256 ∧
      num f 6 6 = time (c.fifo.head?.map fun e => e.stamp) ∧ blank f 12 48) ∧
    (let f := shown 11 0
     let p := s.pos
     num f 0 4 = p.cntA.toNat ∧ num f 4 4 = p.cntB.toNat ∧ num f 8 4 = p.offset.toNat ∧
     num f 12 4 = p.incremental.toNat ∧ (f 16).toNat = p.pair0.toNat + 2 * p.pair1.toNat ∧
     f 17 = p.quadErrors ∧
     f 18 = (match p.reader with | .idle => 0 | .shifting => 1 | .recovery => 2) ∧
     (f 19).toNat = p.record.isSome.toNat + 2 * p.absStamp.isSome.toNat ∧
     num f 20 6 = time (p.record.map fun r => r.start) ∧ num f 26 4 = p.absPos.toNat ∧
     num f 30 6 = time p.absStamp ∧ blank f 36 48) ∧
    (∀ k : Fin 2,
      let f := shown 12 k
      let r := s.meas.cmpRun[k]
      f 0 = (match r.last with | none => 0 | some true => 1 | some false => 2) ∧
      (f 1).toNat = r.spent.toNat ∧ blank f 2 48) ∧
    (∀ table index : Nat,
      (table = 0 ∧ 0 < index ∨ table = 1 ∧ 31 < index ∨ table = 2 ∧ 63 < index ∨
        table = 3 ∧ 1 < index ∨ table = 4 ∧ 7 < index ∨ table = 5 ∧ 0 < index ∨
        table = 6 ∧ s.time.peers.length < index ∨ table = 7 ∧ s.sched.entries.length < index ∨
        table = 8 ∧ 7 < index ∨ table = 9 ∧ 7 < index ∨ table = 10 ∧ 7 < index ∨
        table = 11 ∧ 0 < index ∨ table = 12 ∧ 1 < index ∨ 12 < table) →
      blank (shown table index) 0 48))

/-! ### The other accesses of the host port -/

/-- The reads of the register window. Byte 0 of the time snapshot captures line time and returns its low
byte; byte 0 of the report window captures the head, closing an overflow record; byte 7 read to its eighth bit
removes the head where the same transaction captured it, and removes nothing else; a plain read returns the
register's content and changes only the transaction and SDO; the end of a transaction releases SDO. What every
address reads as, and the eight bytes in which each kind of report is shown. A command byte begins a
transaction; that plain reads and command bytes come with REGISTER_WRITE is the model's choice (log 9), and so
is a read of byte 7 that passes over reads before it (log 8). -/
def Obligations.HostReads : Prop :=
  (∀ s : State, s.resetHeld = false →
    let moved := fun (a : BitVec 7) (b : Byte) =>
      { s.host with
        transaction := some { dir := .read, next := a + 1 }, sdo := some b
        captureLive :=
          s.host.captureLive && decide (s.host.transaction = some { dir := .read, next := a }) }
    let onTo7 := ∃ n : BitVec 7, s.host.transaction = some { dir := .read, next := n } ∧
      0x19 ≤ n.toNat ∧ n.toNat ≤ 0x20
    exec .timeSnapshot s =
      .next
        { s with
          host :=
            { moved 0x10 (s.time.lineTime.setWidth 8) with snapshot := s.time.lineTime } } ∧
    exec .transactionEnd s =
      .next
        { s with host := { s.host with transaction := none, captureLive := false, sdo := none } } ∧
    (∀ r q, s.host.reports = r :: q →
      exec .reportWindow s =
        .next
          { s with
            host :=
              { moved 0x18 r.bytes[0] with
                capture := r.bytes, captureLive := true, reports := r.close :: q } }) ∧
    (s.host.reports = [] →
      exec .reportWindow s =
        .next
          { s with
            host :=
              { moved 0x18 0 with capture := Vector.replicate 8 0, captureLive := false } }) ∧
    (onTo7 → s.host.captureLive = true →
      exec .reportHeadRemove s =
        .next
          { s with
            host :=
              { moved 0x1F s.host.capture[7] with
                reports := s.host.reports.tail, captureLive := false } }) ∧
    (¬onTo7 ∨ s.host.captureLive = false →
      exec .reportHeadRemove s =
        .next { s with host := { moved 0x1F s.host.capture[7] with captureLive := false } }) ∧
    (∀ (a : BitVec 7) (x : Byte),
      (a = 0x10 → exec (.registerWrite (1#1 ++ a) (some x)) s = exec .timeSnapshot s) ∧
      (a = 0x18 → exec (.registerWrite (1#1 ++ a) (some x)) s = exec .reportWindow s) ∧
      (a ≠ 0x10 → a ≠ 0x18 →
        ¬(a = 0x20 ∧ s.host.transaction = some { dir := .read, next := 0x20 }) →
        exec (.registerWrite (1#1 ++ a) (some x)) s =
          .next { s with host := moved a (s.readByte a) }) ∧
      (a = 0x20 → s.host.transaction = some { dir := .read, next := 0x20 } →
        ∃ t, exec .reportHeadRemove s = .next t ∧
          exec (.registerWrite (1#1 ++ a) (some x)) s =
            .next
              { t with
                host :=
                  { t.host with
                    transaction := some { dir := .read, next := 0x21 }
                    sdo := some (s.readByte 0x20) } })) ∧
    (∀ command : Byte,
      exec (.registerWrite command none) s =
        .next
          { s with
            host :=
              { s.host with
                transaction :=
                  some
                    { dir := if command.getLsbD 7 then .read else .write
                      next := command.extractLsb' 0 7 }
                captureLive := false, sdo := some 0 } })) ∧
  (∀ s : State,
    let value := fun (a : Nat) => s.readByte (BitVec.ofNat 7 a)
    value 0x00 = 0x12 ∧ value 0x01 = 0x08 ∧ value 0x02 = s.station.mode.code ∧
    (value 0x03).toNat =
      (match s.line.rx with | .off => 0 | .seeking => 1 | .free => 2 | .receiving => 3) +
        4 * (match s.line.attempt with | .waitGap => 0 | .arbitrating => 1 | .sending => 2) +
        16 * s.line.stuck.toNat ∧
    (∀ i : Fin 6, value (0x04 + i) = s.line.stuckTime.extractLsb' (8 * i) 8) ∧
    value 0x0A = s.host.errorCode.code ∧ value 0x0B = s.host.status.source ∧
    value 0x0C = s.host.status.outcome.code ∧ value 0x0D = s.host.status.detail ∧
    value 0x0E = BitVec.ofNat 8 s.host.reports.length ∧
    value 0x10 = s.time.lineTime.setWidth 8 ∧
    (∀ i : Fin 6, i ≠ 0 → value (0x10 + i) = s.host.snapshot.extractLsb' (8 * i) 8) ∧
    value 0x18 = (match s.host.reports with | [] => 0 | r :: _ => r.bytes[0]) ∧
    (∀ i : Fin 8, i ≠ 0 → value (0x18 + i) = s.host.capture[i]) ∧
    (∀ i : Fin 8, value (0x20 + i) = s.host.params[i]) ∧ value 0x28 = 0 ∧
    value 0x29 = s.host.tableSelect ∧ value 0x2A = s.host.tableIndex ∧ value 0x2B = 0 ∧
    (∀ i : Fin 24, value (0x30 + i) =
      stByte s.host.staging (if s.host.tableSelect.getLsbD 7 then 24 + i else i)) ∧
    (∀ a, a = 0x0F ∨ a = 0x16 ∨ a = 0x17 ∨ 0x2C ≤ a ∧ a ≤ 0x2F ∨ 0x48 ≤ a ∧ a ≤ 0x7F →
      value a = 0)) ∧
  [CmdOutcome.none, .taken, .refused, .badParameter, .checkFailed, .accessRefused].map
      CmdOutcome.code =
    [0, 1, 2, 3, 4, 5] ∧
  (∀ (time : LineTime) (e : EventNo) (i : Fin 64) (n : StationNo) (c : Fin 8) (m : StationMode)
    (x : Value32),
    let mode : Byte :=
      match m with | .config => 0 | .listen => 1 | .active => 2 | .drifted => 3 | .leaving => 4
    let shows := fun (body : ReportBody) (kind : Nat) (a : Value32) (b : Byte) =>
      let bytes := ({ body := body, time := time } : Report).bytes
      bytes[0] = time.extractLsb' 32 3 ++ BitVec.ofNat 5 kind ∧
        bytes[2] ++ bytes[1] = time.extractLsb' 16 16 ∧ bytes[3] = b ∧
        bytes[7] ++ bytes[6] ++ bytes[5] ++ bytes[4] = a
    let event : Value32 := e.setWidth 32
    let entry : Byte := BitVec.ofNat 8 i.val
    let channel : Byte := BitVec.ofNat 8 c.val
    let station : Byte := n.setWidth 8
    shows (.eventLost e .queueFull) 1 event 0 ∧ shows (.eventLost e .abandoned) 1 event 1 ∧
    shows (.eventLost e .leaveTimeout) 1 event 2 ∧
    (∀ r : Fin 32, shows (.dispatchOverflow e (.row r)) 2 event (BitVec.ofNat 8 r.val)) ∧
    shows (.dispatchOverflow e (.station n)) 2 event (0x40 + station) ∧
    shows (.dispatchOverflow e .hostPort) 2 event 0x80 ∧
    shows (.dispatchOverflow e (.entry i)) 2 event (0xC0 + entry) ∧
    shows (.chainLimit e i) 3 event entry ∧ shows (.scheduleFull i e) 4 event entry ∧
    shows (.actionLate x i) 5 x entry ∧
    (∀ (tag : BitVec 4) (inner outer suppressed : Byte),
      shows (.cancelled tag i inner outer suppressed) 6 (suppressed ++ outer ++ inner ++ entry)
        (tag.setWidth 8)) ∧
    (∀ k : Nat, shows (.scheduleFlushed k) 7 (BitVec.ofNat 32 k) 0) ∧
    shows (.captureOverrun .shifting i) 8 1 entry ∧
    shows (.captureOverrun .recovery i) 8 2 entry ∧ shows (.encoderFault x i) 9 x entry ∧
    shows (.outputFault c false) 10 0 channel ∧ shows (.outputFault c true) 10 1 channel ∧
    shows (.outputRestored c .auto) 11 0 channel ∧ shows (.outputRestored c .host) 11 1 channel ∧
    shows (.syncState m x) 12 x mode ∧
    shows (.stateChange m .join) 13 0 mode ∧ shows (.stateChange m .stepped) 13 1 mode ∧
    shows (.stateChange m .founded) 13 2 mode ∧ shows (.stateChange m .leave) 13 3 mode ∧
    shows (.stateChange m .left) 13 4 mode ∧ shows (.stateChange m .leaveAbandoned) 13 5 mode ∧
    shows (.stateChange m .leaveTimeout) 13 6 mode ∧ shows (.stateChange m .restart) 13 7 mode ∧
    shows (.peerJoined n false) 14 0 station ∧ shows (.peerJoined n true) 14 1 station ∧
    shows (.peerLost n .aged) 15 0 station ∧ shows (.peerLost n .left) 15 1 station ∧
    shows (.peerLost n .replaced) 15 2 station ∧ shows (.peerTableFull n) 16 0 station ∧
    (∀ q : Byte, shows (.stationClash q) 17 (q.setWidth 32) 0) ∧
    (∀ k : Nat, shows (.rxErrors k) 18 (BitVec.ofNat 32 k) 0) ∧ shows .lineStuck 19 0 0 ∧
    shows (.lineFree x) 20 x 0 ∧
    (∀ (k : Nat) (first : Byte) (o : Bool),
      shows (.queueOverflow k first o) 21 (BitVec.ofNat 32 k) first)) ∧
  (∀ (n : Nat) (k : Byte) (o : Bool) (time : LineTime),
    ({ body := .queueOverflow n k o, time := time } : Report).close =
      { body := .queueOverflow n k false, time := time }) ∧
  (∀ r : Report, (∀ n k o, r.body ≠ .queueOverflow n k o) → r.close = r)

/-- A report joins the report queue: as its own record below 32 with no open overflow record at the
tail, as a new overflow record where it would be the 32nd, and counted in an open overflow record at the
tail. -/
def Obligations.ReportJoinsQueue : Prop :=
  (∀ (q : List Report) (r : Report), (∀ x, q.getLast? = some x → x.isOpen = false) →
    (q.length < 31 → pushReport q r = q ++ [r]) ∧
    (q.length = 31 →
      pushReport q r =
        q ++ [{ body := .queueOverflow 1 r.body.code true, time := r.time }])) ∧
  (∀ (q : List Report) (r : Report) (n : Nat) (k : Byte) (time : LineTime),
    pushReport (q ++ [{ body := .queueOverflow n k true, time := time }]) r =
      q ++ [{ body := .queueOverflow (min (n + 1) 255) k true, time := time }]) ∧
  (∀ (s : State) (b : ReportBody),
    s.report b =
      { s with
        host :=
          { s.host with
            reports := pushReport s.host.reports { body := b, time := s.time.lineTime } } }) ∧
  (∀ s : State, s.resetHeld = false → s.intnAsserted = !s.host.reports.isEmpty)

/-- A write of the register window: parameters and table select take it in every state, a read-only
register refuses it with its address, an address outside the registers ignores it, and the command
register and the table registers act as their own rows (log 27). Every write leaves the transaction at the
next address, 127 followed by 0, and SDO low. -/
def Obligations.RegisterWriteTaken : Prop :=
  ∀ (s : State) (value : Byte), s.resetHeld = false →
    (∀ i : Fin 8, ∃ p,
      exec (.registerWrite (BitVec.ofNat 8 (0x20 + i.val)) (some value)) s =
        .next { s with host := { s.host.writing (BitVec.ofNat 7 (0x20 + i.val)) with params := p } } ∧
      p[i] = value ∧ ∀ j : Fin 8, j ≠ i → p[j] = s.host.params[j]) ∧
    exec (.registerWrite 0x29 (some value)) s =
      .next { s with host := { s.host.writing 0x29#7 with tableSelect := value } } ∧
    (∀ a : BitVec 7,
      (a.toNat ≤ 0x0E ∨ 0x10 ≤ a.toNat ∧ a.toNat ≤ 0x15 ∨ 0x18 ≤ a.toNat ∧ a.toNat ≤ 0x1F) →
      exec (.registerWrite (0#1 ++ a) (some value)) s =
        .next
          { s with
            host :=
              { s.host.writing a with
                status :=
                  { source := 0x80, outcome := .accessRefused, detail := a.setWidth 8 } } }) ∧
    (∀ a : BitVec 7,
      (a.toNat = 0x0F ∨ a.toNat = 0x16 ∨ a.toNat = 0x17 ∨ 0x2C ≤ a.toNat ∧ a.toNat ≤ 0x2F ∨
        0x48 ≤ a.toNat) →
      exec (.registerWrite (0#1 ++ a) (some value)) s = .next { s with host := s.host.writing a }) ∧
    exec (.registerWrite 0x28 (some 1)) s = exec .join s ∧
    exec (.registerWrite 0x28 (some 2)) s = exec .leave s ∧
    exec (.registerWrite 0x28 (some 3)) s = exec .restart s ∧
    exec (.registerWrite 0x28 (some 4)) s = exec .rearmSub s ∧
    exec (.registerWrite 0x28 (some 5)) s = exec .rearmCmp s ∧
    exec (.registerWrite 0x28 (some 6)) s = exec .restore s ∧
    exec (.registerWrite 0x28 (some 7)) s = exec .inject s ∧
    exec (.registerWrite 0x2A (some value)) s = exec (.tableIndex value) s ∧
    exec (.registerWrite 0x2B (some value)) s = exec (.store value) s ∧
    (∀ i : Fin 24,
      exec (.registerWrite (BitVec.ofNat 8 (0x30 + i.val)) (some value)) s =
        exec (.tableData i.val value) s) ∧
    (∀ a : BitVec 7,
      s.host.writing a =
        { s.host with
          transaction := some { dir := .write, next := a + 1 }, captureLive := false
          sdo := some 0 })

/-! ### The line -/

/-- A gap: the receiver enters FREE, a frame of another station still in reception is discarded and
counted, and a set line-stuck flag is cleared with LINE_FREE. A shorter recessive run only counts, and so
does a run while this station's own attempt is on the line (log 5). LINE_FREE gives the ticks of line time since
the setting, saturated; where a join step has taken line time below that of the setting they are a free value
(log 33). A gap ends the wait after a bit error (log 32). -/
def Obligations.GapTaken : Prop :=
  ∀ (s : State) (ticks b : Nat), s.resetHeld = false → s.line.rx ≠ .off →
    s.station.cfg.bitTicks = some b →
    let run := { s.line with recessiveRun := ticks, dominantRun := 0 }
    let freed :=
      { run with
        rx := .free, rxFrame := if s.line.rx = .free then s.line.rxFrame else none
        awaitGap := false
        rxErrors :=
          if s.line.rx = .receiving then min (s.line.rxErrors + 1) 65535 else s.line.rxErrors }
    (ticks < 11 * b ∨ s.line.rx = .receiving ∧ s.line.attempt ≠ .waitGap →
      exec (.gap ticks) s = .next { s with line := run }) ∧
    (11 * b ≤ ticks → s.line.rx ≠ .receiving ∨ s.line.attempt = .waitGap →
      (s.line.stuck = false → exec (.gap ticks) s = .next { s with line := freed }) ∧
      (s.line.stuck = true →
        ∃ x,
          exec (.gap ticks) s =
            .next
              { ({ s with line := { freed with stuck := false } } : State).report (.lineFree x) with
                choices := s.choices + 1 } ∧
          (0 ≤ s.line.stuckFor →
            x = if s.line.stuckFor < 2 ^ 32 then BitVec.ofInt 32 s.line.stuckFor else 0xFFFFFFFF)))

/-- A start edge read in FREE whose start bit samples dominant begins a frame with the line time as its
raw stamp, from which an attempt in progress times its bits; one that samples recessive is discarded; in
another state a transition begins nothing. That the sample comes with the edge is log 5. A dominant run of 25
bit times sets the line-stuck flag once, with LINE_STUCK; by then the receiver is in SEEKING with no attempt in
progress, and a run named in another state only counts (log 18). -/
def Obligations.StartEdgeAndStuckLine : Prop :=
  ∀ s : State, s.resetHeld = false → s.line.rx ≠ .off →
    (s.line.rx = .free →
      exec (.startEdge false) s =
        .next
          { s with
            line :=
              { s.line with
                rx := .receiving, recessiveRun := 0
                rxFrame := some { rawStamp := s.time.lineTime, bytes := [] }
                txClock := if s.line.attempt = .waitGap then none else some 0 } }) ∧
    exec (.startEdge true) s = .next { s with line := { s.line with recessiveRun := 0 } } ∧
    (s.line.rx ≠ .free →
      exec (.startEdge false) s = .next { s with line := { s.line with recessiveRun := 0 } }) ∧
    (∀ ticks b : Nat, s.station.cfg.bitTicks = some b →
      let run := { s.line with recessiveRun := 0, dominantRun := ticks }
      let sets := 25 * b ≤ ticks ∧ s.line.stuck = false ∧ s.line.rx = .seeking ∧
        s.line.attempt = .waitGap
      (sets →
        exec (.lineStuck ticks) s =
          .next
            (({ s with
              line :=
                { run with stuck := true, stuckTime := s.time.lineTime, stuckFor := 0 } } :
              State).report
              .lineStuck)) ∧
      (¬sets → exec (.lineStuck ticks) s = .next { s with line := run }))

/-- A valid EVENT of another station joins the dispatch queue in ACTIVE and DRIFTED, with its own stamp
from a synced sender and the compensated start-edge stamp from an unsynced one; a valid LEAVE removes the
record of its sender. -/
def Obligations.EventAndLeaveDelivered : Prop :=
  ∀ (s : State) (f : RxFrame) (chars : List CharSample), s.resetHeld = false →
    s.line.rx = .receiving → s.line.attempt = .waitGap → s.line.rxFrame = some f →
    (readChars chars f.bytes).2 = .complete →
    let got := validNotice (readChars chars f.bytes).1 .complete
    let edge := f.rawStamp + s.station.cfg.lineDelay.setWidth 48
    let read : State := { s with line := { s.line with rx := .seeking, rxFrame := none } }
    let reported := fun (b : ReportBody) =>
      { s.host with reports := pushReport s.host.reports { body := b, time := s.time.lineTime } }
    (∀ (n : StationNo) (synced : Bool) (e : EventNo) (gen : Generation) (carried : LineTime)
      (payload : Option Value32), got = some (.event n synced e gen carried payload) →
      let o : Occurrence :=
        { event := e, stamp := if synced then carried else edge, origin := .station n, gen := gen,
          payload := payload, restamped := !synced }
      (s.isOpen = true → s.disp.queue.length < 8 →
        exec (.frameEnd chars) s =
          .next { read with disp := { s.disp with queue := s.disp.queue ++ [o] } }) ∧
      (s.isOpen = true → 8 ≤ s.disp.queue.length →
        exec (.frameEnd chars) s =
          .next { read with host := reported (.dispatchOverflow e (.station n)) }) ∧
      (s.isOpen = false → exec (.frameEnd chars) s = .next read)) ∧
    (∀ (n : StationNo) (reason : Byte), got = some (.leave n reason) →
      (s.station.mode ≠ .config → (findPeer s.time.peers n).isSome = true →
        exec (.frameEnd chars) s =
          .next
            { read with
              time :=
                { s.time with peers := s.time.peers.filter fun r => r.station != n }
              host := reported (.peerLost n .left) }) ∧
      (s.station.mode = .config ∨ (findPeer s.time.peers n).isSome = false →
        exec (.frameEnd chars) s = .next read))

/-- A valid SYNC of another station: it makes or breaks a pair with the record of its sender, makes a
record below 24, takes the place of the oldest record at 24, and reports a clash where it carries this
station's own number. The place of a record in the table, ascending by station number, is the model's choice
(log 22). -/
def Obligations.SyncDelivered : Prop :=
  ∀ (s : State) (f : RxFrame) (chars : List CharSample) (n : StationNo) (synced : Bool) (q : Byte)
    (prev : Option LineTime), s.resetHeld = false →
    s.line.rx = .receiving → s.line.attempt = .waitGap → s.line.rxFrame = some f →
    (readChars chars f.bytes).2 = .complete →
    validNotice (readChars chars f.bytes).1 .complete = some (.sync n synced q prev) →
    let edge := f.rawStamp + s.station.cfg.lineDelay.setWidth 48
    let read : State := { s with line := { s.line with rx := .seeking, rxFrame := none } }
    let reported := fun (l : List ReportBody) =>
      { s.host with
        reports :=
          l.foldl (fun q b => pushReport q { body := b, time := s.time.lineTime }) s.host.reports }
    let fresh : PeerRecord :=
      { station := n, stamp := edge, seq := q, offset := .absent, synced := synced, age := 0 }
    (s.station.mode = .config ∨ s.station.mode = .leaving →
      exec (.frameEnd chars) s = .next read) ∧
    (s.station.mode ≠ .config → s.station.mode ≠ .leaving →
      (n.setWidth 8 = s.station.cfg.station →
        exec (.frameEnd chars) s = .next { read with host := reported [.stationClash q] }) ∧
      (n.setWidth 8 ≠ s.station.cfg.station →
        ((findPeer s.time.peers n).isSome = true →
          exec (.frameEnd chars) s =
            .next
              { read with
                time :=
                  { s.time with
                    peers :=
                      s.time.peers.map fun r =>
                        if r.station = n then
                          { r with
                            stamp := edge, seq := q, synced := synced, age := 0
                            offset :=
                              match prev with
                              | some t =>
                                if r.seq = q - 1 then .fresh (t - r.stamp) else .absent
                              | none => .absent }
                        else r } }) ∧
        ((findPeer s.time.peers n).isSome = false → s.time.peers.length < 24 →
          exec (.frameEnd chars) s =
            .next
              { read with
                time := { s.time with peers := insertPeer fresh s.time.peers }
                host := reported [.peerJoined n synced] }) ∧
        ((findPeer s.time.peers n).isSome = false → 24 ≤ s.time.peers.length →
          (∀ old, oldestPeer s.time.peers = some old →
            exec (.frameEnd chars) s =
              .next
                { read with
                  time :=
                    { s.time with
                      peers :=
                        insertPeer fresh
                          (s.time.peers.filter fun r => r.station != old.station) }
                  host := reported [.peerLost old.station .replaced, .peerJoined n synced] }) ∧
          (oldestPeer s.time.peers = none → s.time.peerFullReported = true →
            exec (.frameEnd chars) s = .next read) ∧
          (oldestPeer s.time.peers = none → s.time.peerFullReported = false →
            exec (.frameEnd chars) s =
              .next
                { read with
                  time := { s.time with peerFullReported := true }
                  host := reported [.peerTableFull n] })))) ∧
    (∀ l : List PeerRecord, l.Pairwise (fun a b => a.station.toNat < b.station.toNat) →
      (oldestPeer l = none ↔ ∀ r ∈ l, r.age < 2) ∧
      ∀ old, oldestPeer l = some old →
        old ∈ l ∧ 2 ≤ old.age ∧
          ∀ r ∈ l, r.age < old.age ∨
            (r.age = old.age ∧ old.station.toNat ≤ r.station.toNat))

/-- A frame of another station that ended by a framing error or a gap, or whose CRC does not match, or
that is an EVENT of number 0, is discarded: it is counted once and has no other effect, but that a gap ends
the wait after a bit error (log 32). A frame that is malformed does not end complete. -/
def Obligations.FrameDiscarded : Prop :=
  (∀ (s : State) (f : RxFrame) (chars : List CharSample), s.resetHeld = false →
    s.line.rx = .receiving → s.line.attempt = .waitGap → s.line.rxFrame = some f →
    let r := readChars chars f.bytes
    (r.2 ≠ .complete ∨ crcMatches r.1 = false ∨ eventZero r.1 = true) →
    exec (.frameEnd chars) s =
      .next
        { s with
          line :=
            { s.line with
              rx := if r.2 = .gap then .free else .seeking
              awaitGap := if r.2 = .gap then false else s.line.awaitGap
              rxFrame := none, rxErrors := min (s.line.rxErrors + 1) 65535 } }) ∧
  (∀ (chars : List CharSample) (got : List Byte),
    malformed (readChars chars got).1 = true → (readChars chars got).2 ≠ .complete)

/-- An attempt begins when the transmitter is on, no attempt is in progress, the receiver is FREE and
the queue offers a notice: the first notice is marked, its bytes are fixed, and the start bit of byte 0 is
driven. From a bit error to the next gap none begins (log 32). -/
def Obligations.AttemptBegins : Prop :=
  ∀ (s : State) (n : Notice) (q : List Notice), s.resetHeld = false →
    (s.station.mode = .active ∨ s.station.mode = .drifted ∨ s.station.mode = .leaving) →
    s.line.attempt = .waitGap → s.line.rx = .free → s.line.txq = n :: q → n.inTx = false →
    (s.line.awaitGap = false →
      exec .attemptBegin s =
        .next
          { s with
            line :=
              { s.line with
                attempt := .arbitrating, attemptBytes := s.noticeBytes n
                txq := { n with inTx := true } :: q, txl := false } }) ∧
    (s.line.awaitGap = true → exec .attemptBegin s = .next s) ∧
    (n.body = .sync →
      s.noticeBytes n =
        withCrc
          (syncBytes (s.station.cfg.station.setWidth 6) (s.station.mode == .active)
            s.time.syncCount s.time.prevEdge)) ∧
    (∀ o, n.body = .event o →
      s.noticeBytes n =
        withCrc
          (eventBytes n.priority (s.station.cfg.station.setWidth 6)
            (s.station.mode == .active && !o.restamped) o)) ∧
    (∀ reason, n.body = .leave reason →
      s.noticeBytes n =
        withCrc
          (leaveBytes n.priority (s.station.cfg.station.setWidth 6) (s.station.mode == .active)
            reason))

/-- In ARBITRATING with the own frame on the line, each bit being sampled in the middle of its bit time: a
data bit of bytes 0 and 1 sent recessive and read dominant loses, and the notice goes back with its count, or
is withdrawn as an own SYNC in LEAVING; the last data bit of byte 1 read as sent wins. That the commands come
at their samples is log 5. -/
def Obligations.ArbitrationDecided : Prop :=
  ∀ (s : State) (f : RxFrame) (b : Nat) (pre post : List Notice) (n : Notice),
    s.resetHeld = false → s.station.cfg.bitTicks = some b →
    s.line.attempt = .arbitrating → s.line.rx = .receiving → s.line.rxFrame = some f →
    s.line.txq = pre ++ n :: post → n.inTx = true → (∀ m ∈ pre ++ post, m.inTx = false) →
    (∀ dataBit, dataBit < 16 →
      s.line.txClock = some (b * (10 * (dataBit / 8) + 1 + dataBit % 8) + b / 2) →
      sentLevel s.line.attemptBytes (10 * (dataBit / 8) + 1 + dataBit % 8) = some true →
      exec (.arbitrationLost dataBit) s =
        .next
          { s with
            line :=
              { s.line with
                attempt := .waitGap, attemptBytes := [], txl := true, txClock := none
                rxFrame := some { f with bytes := s.line.attemptBytes.take (dataBit / 8) }
                txq :=
                  if s.station.mode = .leaving ∧ n.body = .sync then pre ++ post
                  else pre ++ { n with inTx := false } :: post } }) ∧
    (s.line.txClock = some (b * 18 + b / 2) →
      exec .arbitrationWon s = .next { s with line := { s.line with attempt := .sending } })

/-- A bit error, in ARBITRATING or SENDING: the attempt ends, TXL goes high and a gap is awaited, one errored
attempt against its notice; at the third the notice is dropped, an EVENT with EVENT_LOST, a LEAVE with the end
of the drain; an own SYNC in LEAVING is withdrawn. Each bit is sampled in the middle of its bit time; the start
bit of byte 0, where it samples recessive, has made no start edge. That the command comes at its sample is
log 5. -/
def Obligations.BitErrorTaken : Prop :=
  ∀ (s : State) (sample b : Nat) (pre post : List Notice) (n : Notice), s.resetHeld = false →
    s.station.cfg.bitTicks = some b →
    (s.line.txClock = some (b * sample + b / 2) ∨ s.line.rx = .free) →
    (s.line.attempt = .sending ∧ s.line.rx = .receiving ∧ s.line.rxFrame.isSome = true ∧
        18 < sample ∧ sample < 10 * s.line.attemptBytes.length ∨
      s.line.attempt = .arbitrating ∧ s.line.rx = .receiving ∧ s.line.rxFrame.isSome = true ∧
        1 ≤ sample ∧ sample ≤ 18 ∧
        (sample % 10 = 0 ∨ sample % 10 = 9 ∨ sentLevel s.line.attemptBytes sample = some false) ∨
      s.line.attempt = .arbitrating ∧ s.line.rx = .free ∧ sample = 0) →
    s.line.txq = pre ++ n :: post → n.inTx = true → (∀ m ∈ pre ++ post, m.inTx = false) →
    let ended := fun (q : List Notice) =>
      ({ s with
        line :=
          { s.line with
            attempt := .waitGap, attemptBytes := [], txl := true, txClock := none, txq := q
            awaitGap := true
            rxFrame :=
              s.line.rxFrame.map fun f =>
                { f with bytes := s.line.attemptBytes.take (sample / 10) } } } : State)
    (n.errored < 2 → ¬(s.station.mode = .leaving ∧ n.body = .sync) →
      exec (.bitError sample) s =
        .next (ended (pre ++ { n with inTx := false, errored := n.errored + 1 } :: post))) ∧
    (n.body = .sync → s.station.mode = .leaving ∨ 2 ≤ n.errored →
      exec (.bitError sample) s = .next (ended (pre ++ post))) ∧
    (∀ o, n.body = .event o → 2 ≤ n.errored →
      exec (.bitError sample) s =
        .next ((ended (pre ++ post)).report (.eventLost o.event .abandoned))) ∧
    (∀ reason, n.body = .leave reason → 2 ≤ n.errored →
      exec (.bitError sample) s = .next ((ended (pre ++ post)).enterConfig .leaveAbandoned))

/-- The own frame read to its end in SENDING, at the sample of its last stop bit (log 5): its notice leaves
the queue and the receiver seeks; an own SYNC stores the raw start edge and counts, an own EVENT is dispatched
with origin this station in ACTIVE and DRIFTED, the LEAVE ends the drain. -/
def Obligations.AttemptCompletes : Prop :=
  ∀ (s : State) (f : RxFrame) (b : Nat) (pre post : List Notice) (n : Notice),
    s.resetHeld = false → s.station.cfg.bitTicks = some b →
    s.line.txClock = some (b * (10 * s.line.attemptBytes.length - 1) + b / 2) →
    s.line.attempt = .sending → s.line.rx = .receiving → s.line.rxFrame = some f →
    s.line.txq = pre ++ n :: post → n.inTx = true → (∀ m ∈ pre ++ post, m.inTx = false) →
    let ended : State :=
      { s with
        line :=
          { s.line with
            rx := .seeking, rxFrame := none, attempt := .waitGap, attemptBytes := []
            txq := pre ++ post, txl := true, txClock := none } }
    (n.body = .sync →
      exec .attemptComplete s =
        .next
          { ended with
            time :=
              { s.time with
                prevEdge := some f.rawStamp, syncCount := s.time.syncCount + 1 } }) ∧
    (∀ o, n.body = .event o →
      let own := { o with origin := .station (s.station.cfg.station.setWidth 6) }
      (s.isOpen = true → s.disp.queue.length < 8 →
        exec .attemptComplete s =
          .next { ended with disp := { s.disp with queue := s.disp.queue ++ [own] } }) ∧
      (s.isOpen = true → 8 ≤ s.disp.queue.length →
        exec .attemptComplete s =
          .next (ended.report (.dispatchOverflow own.event own.origin))) ∧
      (s.isOpen = false → exec .attemptComplete s = .next ended)) ∧
    (∀ reason, n.body = .leave reason →
      exec .attemptComplete s = .next (ended.enterConfig .left))

/-- The drain: the LEAVE notice is placed behind all others once no EVENT notice and no LEAVE notice is
in the queue; at the leave timeout every EVENT notice is reported lost and CONFIG entered; and what the entry
to CONFIG does: RX_ERRORS where the count is not 0, then STATE_CHANGE. -/
def Obligations.LeaveDrain : Prop :=
  (∀ s : State, s.resetHeld = false → s.station.mode = .leaving →
    (∀ n ∈ s.line.txq, n.body = .sync) →
    exec .leaveNoticePlaced s =
      .next
        { s with
          line :=
            { s.line with
              txq :=
                s.line.txq ++
                  [{ body := .leave 0, priority := 7, errored := 0, inTx := false }] } }) ∧
  (∀ s : State, s.resetHeld = false → s.station.mode = .leaving →
    s.station.leaveTimer = some 0 →
    exec .leaveTimeout s =
      .next
        (({ s with
          host :=
            { s.host with
              reports :=
                (s.line.txq.filterMap fun n =>
                    match n.body with
                    | .event o => some (ReportBody.eventLost o.event .leaveTimeout)
                    | .sync => none
                    | .leave _ => none).foldl
                  (fun q b => pushReport q { body := b, time := s.time.lineTime })
                  s.host.reports } } : State).enterConfig .leaveTimeout)) ∧
  (∀ (s : State) (cause : StateCause),
    s.enterConfig cause =
      { s with
        station := { s.station with mode := .config, listenTimer := none, leaveTimer := none }
        line :=
          { s.line with
            rx := .off, rxFrame := none, stuck := false, attempt := .waitGap, attemptBytes := []
            txq := [], txl := true, txClock := none, awaitGap := false, rxErrors := 0 }
        host :=
          { s.host with
            reports :=
              pushReport
                (if s.line.rxErrors = 0 then s.host.reports
                 else
                  pushReport s.host.reports
                    { body := .rxErrors s.line.rxErrors, time := s.time.lineTime })
                { body := .stateChange .config cause, time := s.time.lineTime } } })

/-! ### The sync round and the join step -/

/-- The median: of the values in ascending order the middle one, or the midpoint of the two middle ones
rounded toward zero; and the set of a round, the station's own 0 and the FRESH offsets of synced records. -/
def Obligations.MedianOfRound : Prop :=
  (∀ l : List Int, l ≠ [] →
    ∃ a : List Int, a.Perm l ∧ a.Pairwise (· ≤ ·) ∧
      (l.length % 2 = 1 → a[l.length / 2]? = some (median l)) ∧
      (l.length % 2 = 0 →
        ∃ x y, a[l.length / 2 - 1]? = some x ∧ a[l.length / 2]? = some y ∧
          median l = (x + y).tdiv 2)) ∧
  (∀ l : List PeerRecord,
    roundSet l =
      0 :: l.filterMap fun r =>
        match r.synced, r.offset with
        | true, .fresh v => some v.toInt
        | _, _ => none) ∧
  (∀ s : State, s.resetHeld = false → s.time.syncTimer = some 0 →
    ∃ t, exec .syncRound s = .next t ∧
      t.time.lastMedian = BitVec.ofInt 48 (median (roundSet s.time.peers))) ∧
  State.reset.time.lastMedian = 0 ∧
  (∀ s : State, s.resetHeld = false →
    ∃ t, exec .restart s = .next t ∧ t.time.lastMedian = 0) ∧
  (∀ s : State, s.resetHeld = false → s.station.mode = .listen →
    s.station.listenTimer = some 0 →
    ∃ t, exec .listenWindowExpiry s = .next t ∧ t.time.lastMedian = 0)

/-- One sync round: the median and its slew, in step or not, offsets consumed, ages up and the aged
records removed with PEER_LOST, the counters and the station state, RX_ERRORS, and the own SYNC placed. The
order of reports that the manual leaves open is a free value (log 11), and how many free choices a round uses
up is the model's (log 3). -/
def Obligations.SyncRoundTaken : Prop :=
  ∀ s : State, s.resetHeld = false → s.time.syncTimer = some 0 →
    s.station.mode = .active ∨ s.station.mode = .drifted →
    let m := median (roundSet s.time.peers)
    let small : Int := s.station.cfg.limitS.toNat
    let inStep := decide (m.natAbs ≤ s.station.cfg.limitL.toNat)
    let out := s.time.outCount
    let inn := s.time.inCount
    let next : StationMode × Nat × Nat :=
      if s.station.mode = .active then
        if inStep then (.active, 0, inn)
        else if 3 ≤ out + 1 then (.drifted, 0, 0)
        else (.active, out + 1, inn)
      else if inStep then if 2 ≤ inn + 1 then (.active, 0, 0) else (.drifted, out, inn + 1)
      else (.drifted, out, 0)
    let lost := (s.time.peers.filter fun r => decide (4 ≤ r.age + 1)).map fun r =>
      ReportBody.peerLost r.station .aged
    let changed :=
      if next.1 = s.station.mode then [] else [ReportBody.syncState next.1 (sat32 m)]
    let errors := if s.line.rxErrors = 0 then [] else [ReportBody.rxErrors s.line.rxErrors]
    ∃ t, exec .syncRound s = .next t ∧
      t.time =
        { s.time with
          peers :=
            (s.time.peers.filter fun r => decide (r.age + 1 < 4)).map fun r =>
              { r with
                age := r.age + 1
                offset := match r.offset with | .fresh v => .used v | o => o }
          lastMedian := BitVec.ofInt 48 m
          slew := if m < -small then -small else if small < m then small else m
          alone := (roundSet s.time.peers).length == 1
          lastInStep := inStep, outCount := next.2.1, inCount := next.2.2
          peerFullReported := false, syncTimer := some s.station.cfg.period } ∧
      t.station = { s.station with mode := next.1 } ∧
      t.line =
        { s.line with
          rxErrors := 0
          txq :=
            if s.line.txq.any (fun n => n.body == .sync) then s.line.txq
            else
              placeNotice { body := .sync, priority := 0, errored := 0, inTx := false }
                s.line.txq } ∧
      (∃ aged made, aged.Perm lost ∧ made.Perm (aged ++ changed ++ errors) ∧
        (aged ++ changed).Sublist made ∧
        t.host =
          { s.host with
            reports :=
              made.foldl (fun q b => pushReport q { body := b, time := s.time.lineTime })
                s.host.reports }) ∧
      t.disp = s.disp ∧ t.sched = s.sched ∧ t.chans = s.chans ∧ t.pos = s.pos ∧
      t.meas = s.meas ∧ t.resetHeld = false ∧
      t.choices = s.choices + s.time.peers.length + 1 ∧ t.pending = s.pending

/-- The end of the listen window: the step by the median of the FRESH offsets of synced records, else of
unsynced ones, else the founding; line time, stamps and the frame in reception moved, offsets consumed, the
FIFOs emptied, the sync timer started, the own SYNC placed, STATE_CHANGE reported. Which scale the line time
of RX_ERRORS has is a free value, and its place before STATE_CHANGE the model's choice (log 12); a change whose
filter timer has run out at this instant is counted after the step and takes a stamp of the new scale, the
others keep theirs (log 31). The ticks since the setting for a stuck line move with line time (log 33). -/
def Obligations.ListenWindowExpires : Prop :=
  ∀ s : State, s.resetHeld = false → s.station.mode = .listen → s.station.listenTimer = some 0 →
    let freshOf := fun (synced : Bool) => s.time.peers.filterMap fun r =>
      match r.offset with
      | .fresh v => if r.synced == synced then some v.toInt else none
      | _ => none
    let taken := fun (step : Int) (mode : StationMode) (cause : StateCause) (founding : Bool) =>
      let d := BitVec.ofInt 48 step
      ∃ t, exec .listenWindowExpiry s = .next t ∧
        t.time =
          { s.time with
            lineTime := s.time.lineTime + d, slew := 0
            peers :=
              s.time.peers.map fun r =>
                { r with
                  stamp := r.stamp + d
                  offset := match r.offset with | .fresh v => .used v | o => o }
            syncTimer := some s.station.cfg.period, lastMedian := 0, lastInStep := true
            outCount := 0, inCount := 0, alone := founding, syncCount := 0, prevEdge := none
            peerFullReported := false } ∧
        t.station = { s.station with mode := mode, listenTimer := none } ∧
        t.line =
          { s.line with
            rxErrors := 0
            rxFrame := s.line.rxFrame.map fun f => { f with rawStamp := f.rawStamp + d }
            stuckFor := if s.line.stuck then s.line.stuckFor + step else s.line.stuckFor
            txq :=
              if s.line.txq.any (fun n => n.body == .sync) then s.line.txq
              else
                placeNotice { body := .sync, priority := 0, errored := 0, inTx := false }
                  s.line.txq } ∧
        (∀ c : Fin 8, t.chans[c] =
          { s.chans[c] with
            fifo := []
            cand :=
              s.chans[c].cand.map fun k =>
                if k.left = 0 then { k with stamp := k.stamp + d } else k }) ∧
        (∃ when, (when = s.time.lineTime ∨ when = s.time.lineTime + d) ∧
          t.host =
            { s.host with
              reports :=
                pushReport
                  (if s.line.rxErrors = 0 then s.host.reports
                   else
                    pushReport s.host.reports
                      { body := .rxErrors s.line.rxErrors, time := when })
                  { body := .stateChange mode cause, time := s.time.lineTime + d } }) ∧
        t.disp = s.disp ∧ t.sched = s.sched ∧ t.pos = s.pos ∧ t.meas = s.meas ∧
        t.resetHeld = false ∧ t.pending = s.pending
    (freshOf true ≠ [] → taken (median (freshOf true)) .active .stepped false) ∧
    (freshOf true = [] → freshOf false ≠ [] →
      taken (median (freshOf false)) .drifted .stepped false) ∧
    (freshOf true = [] → freshOf false = [] → taken 0 .active .founded true)

/-! ### Dispatch and the requests -/

/-- In IDLE the head of the dispatch queue becomes the current occurrence; behind position 63 the
current occurrence is discarded. -/
def Obligations.DispatchStartsAndEnds : Prop :=
  ∀ s : State, s.resetHeld = false →
    (∀ o q, s.disp.current = none → s.disp.queue = o :: q →
      exec .dispatchStart s =
        .next { s with disp := { s.disp with queue := q, current := some o, scanPos := 0 } }) ∧
    (s.disp.current.isSome = true → s.disp.scanPos = 64 →
      exec .dispatchComplete s =
        .next { s with disp := { s.disp with current := none, scanPos := 0 } })

/-- The entry at the scan position: one that is armed, of the occurrence's event number and whose filter
admits the origin acts, an entry of policy ONCE being disarmed; any other is passed over. The request carries
the cause, the acting time and what the action samples; it is taken at once or stays under way, which uses one
free choice up (logs 3 and 30), and the request of an earlier entry is taken first. A request is taken with
what it carries, and outside ACTIVE and DRIFTED a DRIVE, a CANCEL, a CAPTURE and a COMPARE are discarded. -/
def Obligations.EntryExamined : Prop :=
  (∀ (s : State) (o : Occurrence) (i : Fin 64), s.resetHeld = false → s.disp.current = some o →
    s.disp.scanPos = i.val →
    let u := s.takeUnderWay
    let e := s.disp.subs[i]
    let admitted := e.armed = true ∧ e.event ≠ 0 ∧ e.event = o.event ∧ e.filter.admits o.origin
    let on := fun (t : State) =>
      ({ t with disp := { t.disp with scanPos := t.disp.scanPos + 1 } } : State)
    let cause : Cause :=
      { event := o.event, stamp := o.stamp, payload := o.payload, gen := o.gen,
        restamped := o.restamped, entry := i }
    let r : Request :=
      { action := e.action, cause := cause, actingTime := s.time.lineTime
        sample :=
          match e.action with
          | .latch src _ _ => u.pos.read src
          | .compare k => u.pos.read u.meas.cmpCfg[k].source
          | _ => 0
        edge :=
          match e.action with
          | .measure channel kind j _ =>
            (u.chans[channel].fifo.filter fun x => kind.admits x.kind)[j.toNat]?
          | _ => none }
    let acted : State :=
      { u with
        choices := u.choices + 1
        disp :=
          { u.disp with
            subs :=
              if e.policy = .once then updVec u.disp.subs i fun e => { e with armed := false }
              else u.disp.subs } }
    (¬admitted → exec .entryExamined s = .next (on u)) ∧
    (admitted →
      exec .entryExamined s = .next (on (acted.takeRequest r)) ∨
        exec .entryExamined s =
          .next (on { acted with disp := { acted.disp with underWay := some r } }))) ∧
  (∀ s : State, s.disp.underWay = none → s.takeUnderWay = s) ∧
  (∀ (s : State) (r : Request), s.disp.underWay = some r →
    s.takeUnderWay = ({ s with disp := { s.disp with underWay := none } } : State).takeRequest r) ∧
  (∀ (s : State) (r : Request),
    ((∃ p, r.action = .drive p) ∨ (∃ tag, r.action = .cancel tag) ∨ r.action = .capture ∨
        (∃ v, r.action = .preset v) →
      s.takeRequest r = s.request r.action r.cause) ∧
    (∀ src slot publish, r.action = .latch src slot publish →
      r.sample = s.pos.read src → r.actingTime = s.time.lineTime →
      s.takeRequest r = s.request r.action r.cause) ∧
    (∀ k : Fin 2, r.action = .compare k →
      r.sample = s.pos.read s.meas.cmpCfg[k].source → r.actingTime = s.time.lineTime →
      s.takeRequest r = s.request r.action r.cause) ∧
    (∀ (channel : Fin 8) (kind : EdgeSelect) (j : BitVec 4) (slot : Fin 8),
      r.action = .measure channel kind j slot →
      r.edge = (s.chans[channel].fifo.filter fun x => kind.admits x.kind)[j.toNat]? →
      s.takeRequest r = s.request r.action r.cause) ∧
    (∀ src slot, r.action = .latch src slot none →
      s.takeRequest r =
        { s with
          meas :=
            { s.meas with
              latches :=
                updVec s.meas.latches slot fun l =>
                  { value := r.sample, stamp := some r.actingTime, source := src, isNew := true
                    overrun := l.isNew } } }) ∧
    (s.isOpen = false →
      (∃ p, r.action = .drive p) ∨ (∃ tag, r.action = .cancel tag) ∨ r.action = .capture ∨
        (∃ k, r.action = .compare k) →
      s.takeRequest r = s))

/-- Which origins each origin filter admits, and what a match is. -/
def Obligations.OriginFilterAdmits : Prop :=
  (∀ o : Origin, OriginFilter.any.admits o = true) ∧
  (∀ (r : Fin 32) (e : Fin 64) (n : StationNo),
    OriginFilter.inside.admits (.row r) = true ∧ OriginFilter.inside.admits .hostPort = true ∧
    OriginFilter.inside.admits (.entry e) = true ∧
    OriginFilter.inside.admits (.station n) = false ∧
    OriginFilter.line.admits (.row r) = false ∧ OriginFilter.line.admits .hostPort = false ∧
    OriginFilter.line.admits (.entry e) = false ∧
    OriginFilter.line.admits (.station n) = true ∧
    ∀ j : StationNo,
      (OriginFilter.station j).admits (.row r) = false ∧
      (OriginFilter.station j).admits .hostPort = false ∧
      (OriginFilter.station j).admits (.entry e) = false ∧
      ((OriginFilter.station j).admits (.station n) = true ↔ n = j)) ∧
  (∀ (e : SubEntry) (o : Occurrence), e.event ≠ 0 →
    (e.matchesOcc o = true ↔
      e.armed = true ∧ e.event = o.event ∧ e.filter.admits o.origin = true)) ∧
  (∀ (e : SubEntry) (o : Occurrence), e.event = 0 → e.matchesOcc o = false)

/-- A bound row fires in ACTIVE and DRIFTED alone; a derived occurrence has a generation one greater
than its cause's, and CHAIN_LIMIT takes its place where the cause's is 3; scope LOCAL goes to the tail of the
dispatch queue or overflows it, scope LINE takes its place in the transmit queue, behind its own priority, or
is lost. -/
def Obligations.SourcesAndDerived : Prop :=
  (∀ (s : State) (r : Fin 32) (stamp : LineTime) (v : Option Value32),
    let b := s.disp.bindings[r]
    (b.event = 0 ∨ s.isOpen = false → s.fireRow r stamp v = s) ∧
    (b.event ≠ 0 → s.isOpen = true →
      s.fireRow r stamp v =
        s.raise b.scope (b.priority.setWidth 3)
          { event := b.event, stamp := stamp, origin := .row r, gen := 0
            payload := if b.payloadFlag then v else none, restamped := false })) ∧
  (∀ (s : State) (r : Fin 32) (c : Cause) (stamp : LineTime) (v : Option Value32)
    (restamped : Bool),
    let b := s.disp.bindings[r]
    (b.event = 0 ∨ s.isOpen = false → s.fireDerived r c stamp v restamped = s) ∧
    (b.event ≠ 0 → s.isOpen = true → c.gen = 3 →
      s.fireDerived r c stamp v restamped = s.report (.chainLimit b.event c.entry)) ∧
    (b.event ≠ 0 → s.isOpen = true → c.gen ≠ 3 →
      s.fireDerived r c stamp v restamped =
        s.raise b.scope (b.priority.setWidth 3)
          { event := b.event, stamp := stamp, origin := .row r, gen := c.gen + 1
            payload := if b.payloadFlag then v else none, restamped := restamped })) ∧
  (∀ (s : State) (gen : Generation) (entry : Fin 64) (d : EventDesc) (o : Occurrence),
    (s.isOpen = false → s.derive gen entry d o = s) ∧
    (s.isOpen = true → gen = 3 → s.derive gen entry d o = s.report (.chainLimit d.event entry)) ∧
    (s.isOpen = true → gen ≠ 3 →
      s.derive gen entry d o =
        s.raise d.scope d.priority { o with event := d.event, gen := gen + 1 })) ∧
  (∀ (s : State) (p : Priority) (o : Occurrence), s.isOpen = true →
    (s.disp.queue.length < 8 →
      s.raise .here p o = { s with disp := { s.disp with queue := s.disp.queue ++ [o] } }) ∧
    (8 ≤ s.disp.queue.length → s.raise .here p o = s.report (.dispatchOverflow o.event o.origin)) ∧
    (s.line.txq.countP (fun n => n.body != .sync) < 15 →
      s.raise .line p o =
        { s with
          line :=
            { s.line with
              txq :=
                placeNotice { body := .event o, priority := p, errored := 0, inTx := false }
                  s.line.txq } }) ∧
    (15 ≤ s.line.txq.countP (fun n => n.body != .sync) →
      s.raise .line p o = s.report (.eventLost o.event .queueFull))) ∧
  (∀ (n : Notice) (q : List Notice),
    q.Pairwise (fun a b => a.priority.toNat ≤ b.priority.toNat) →
    placeNotice n q =
      q.filter (fun m => decide (m.priority.toNat ≤ n.priority.toNat)) ++
        n :: q.filter (fun m => decide (n.priority.toNat < m.priority.toNat)))

/-- A DRIVE request: discarded outside ACTIVE and DRIFTED, refused with SCHEDULE_FULL at 32 entries;
else inserted at its due time, or, where that is reached already, reported with its lateness and inserted at
the line time of the insertion with its first ON phase expiring at once. -/
def Obligations.DriveTaken : Prop :=
  (∀ (s : State) (p : DriveParams) (c : Cause),
    let due := c.stamp + p.delay.setWidth 48
    let entry := fun (due : LineTime) (late : Bool) =>
      ({ due := due, phase := .on, mask := p.mask, onLevels := p.onLevels, width := p.width,
         burstStart := due, trainStart := due, innerRem := p.innerCount
         innerCount := p.innerCount, innerSpacing := p.innerSpacing, outerRem := p.outerCount
         outerSpacing := p.outerSpacing, tag := p.tag, endEvent := p.endEvent
         originEntry := c.entry, event := c.event, causeGen := c.gen
         causeRestamped := c.restamped, late := late, suppressed := 0
         seq := s.sched.counter } : SchedEntry)
    (s.isOpen = false → s.request (.drive p) c = s) ∧
    (s.isOpen = true → 32 ≤ s.sched.entries.length →
      s.request (.drive p) c = s.report (.scheduleFull c.entry c.event)) ∧
    (s.isOpen = true → s.sched.entries.length < 32 → 0 < (due - s.time.lineTime).toInt →
      s.request (.drive p) c =
        { s with
          sched :=
            { entries := placeEntry (entry due false) s.sched.entries
              counter := s.sched.counter + 1 } }) ∧
    (s.isOpen = true → s.sched.entries.length < 32 → (due - s.time.lineTime).toInt ≤ 0 →
      s.resetHeld = false →
      exec .scheduleExpiry
          (({ s with
            sched :=
              { entries := entry s.time.lineTime true :: s.sched.entries
                counter := s.sched.counter + 1 } } : State).report
            (.actionLate
              (if (s.time.lineTime - due).toNat < 2 ^ 32 then
                (s.time.lineTime - due).setWidth 32
               else 0xFFFFFFFF) c.entry)) =
        .next (s.request (.drive p) c))) ∧
  (∀ (e : SchedEntry) (l : List SchedEntry), ∃ a b,
    l = a ++ b ∧ placeEntry e l = a ++ e :: b ∧
      (∀ x ∈ a, (x.due - e.due).toInt ≤ 0) ∧
      ∀ x, b.head? = some x → 0 < (x.due - e.due).toInt)

/-- The expiry of the head of the schedule: one update of the output word, the suppressed count, and then
the OFF phase, the next pulse, the next burst, or the completion with its end event. -/
def Obligations.ScheduleExpires : Prop :=
  (∀ (s : State) (e : SchedEntry) (l : List SchedEntry), s.resetHeld = false →
    s.sched.entries = e :: l → (e.due - s.time.lineTime).toInt ≤ 0 →
    let levels := if e.phase = .on then e.onLevels else ~~~e.onLevels
    let missed := ∃ c : Fin 8, e.mask.getLsbD c.val = true ∧ s.chans[c].driven = false
    ∀ x : Byte,
      (missed → e.suppressed ≠ 255 → x = e.suppressed + 1) →
      (¬missed ∨ e.suppressed = 255 → x = e.suppressed) →
      let chans := (s.updateOutputs e.mask levels).chans
      let again := fun (e : SchedEntry) =>
        exec .scheduleExpiry s =
          .next
            { s with
              chans := chans
              sched :=
                { entries := placeEntry { e with seq := s.sched.counter, suppressed := x } l
                  counter := s.sched.counter + 1 } }
      let pulse := e.burstStart + e.innerSpacing.setWidth 48
      let burst := e.trainStart + e.outerSpacing.setWidth 48
      (e.phase = .on → e.width ≠ 0 →
        again { e with phase := .off, due := e.burstStart + e.width.setWidth 48 }) ∧
      (e.phase = .off ∨ e.width = 0 →
        (1 < e.innerRem.toNat →
          again
            { e with phase := .on, innerRem := e.innerRem - 1, burstStart := pulse,
                     due := pulse }) ∧
        (e.innerRem.toNat ≤ 1 → 1 < e.outerRem.toNat →
          again
            { e with
              phase := .on, outerRem := e.outerRem - 1, innerRem := e.innerCount
              trainStart := burst, burstStart := burst, due := burst }) ∧
        (e.innerRem.toNat ≤ 1 → e.outerRem.toNat ≤ 1 →
          let rest : State := { s with chans := chans, sched := { s.sched with entries := l } }
          (e.endEvent = none → exec .scheduleExpiry s = .next rest) ∧
          ∀ d, e.endEvent = some d →
            exec .scheduleExpiry s =
              .next
                (rest.derive e.causeGen e.originEntry d
                  { event := d.event, stamp := e.due, origin := .entry e.originEntry
                    gen := e.causeGen, payload := none, restamped := e.causeRestamped })))) ∧
  (∀ (s : State) (mask levels : Byte) (c : Fin 8),
    (s.updateOutputs mask levels).chans[c] =
      if mask.getLsbD c.val then
        { s.chans[c] with
          lastCmd := levels.getLsbD c.val
          mismatch :=
            if s.chans[c].driven then
              if s.chans[c].sensed = levels.getLsbD c.val then none
              else some (s.chans[c].mismatch.getD (100 * s.chans[c].cfg.checkDelay.toNat))
            else s.chans[c].mismatch }
      else s.chans[c])

/-- A CANCEL request: discarded outside ACTIVE and DRIFTED; else, entries that are due at its instant having
expired before it or been left to it, each in its own order (log 35), every entry of its tag leaves the
schedule, a pending OFF phase applied at once, each with its CANCELLED, head first; the others keep their
order and the sequence counter stays. Where the head is not due nothing is taken before it. -/
def Obligations.CancelTaken : Prop :=
  ∀ (s : State) (tag : BitVec 4) (c : Cause),
    (s.isOpen = false → s.request (.cancel tag) c = s) ∧
    (s.isOpen = true → s.resetHeld = false →
      let before := fun (a b : State × List SchedEntry) =>
        let chosen : State := { a.1 with choices := a.1.choices + 1 }
        b = (chosen, a.2) ∨
          ∃ (e : SchedEntry) (l : List SchedEntry),
            a.1.sched.entries = e :: l ∧ (e.due - a.1.time.lineTime).toInt ≤ 0 ∧
              (e.tag = tag ∧
                  b = ({ chosen with sched := { a.1.sched with entries := l } }, a.2 ++ [e]) ∨
                exec .scheduleExpiry chosen = .next b.1 ∧ b.2 = a.2)
      ∃ (u : State) (left : List SchedEntry), Relation.ReflTransGen before (s, []) (u, left) ∧
        (∀ e, s.sched.entries.head? = some e → 0 < (e.due - s.time.lineTime).toInt →
          u = s ∧ left = []) ∧
        let t : State := { u with sched := { u.sched with entries := left ++ u.sched.entries } }
        let gone := t.sched.entries.filter fun e => e.tag == tag
        let counted := fun (e : SchedEntry) =>
          if e.phase = .off ∧ t.anyUndriven e.mask = true ∧ e.suppressed ≠ 255#8 then
            e.suppressed + 1
          else e.suppressed
        s.request (.cancel tag) c =
          { t with
            sched := { t.sched with entries := t.sched.entries.filter fun e => e.tag != tag }
            chans :=
              ((gone.filter fun e => e.phase == .off).foldl
                (fun t e => t.updateOutputs e.mask (~~~e.onLevels)) t).chans
            host :=
              { t.host with
                reports :=
                  gone.foldl
                    (fun q e =>
                      pushReport q
                        { body :=
                            .cancelled e.tag e.originEntry e.innerRem e.outerRem
                              (counted e)
                          time := t.time.lineTime })
                    t.host.reports } })

/-- A LATCH request writes its slot in every station state, new set and overrun set where new was; then
its publish is raised with the value as its payload. What a sign makes of a counter. -/
def Obligations.LatchTaken : Prop :=
  (∀ (s : State) (src : PosSource) (slot : Fin 8) (publish : Option EventDesc) (c : Cause),
    let p := s.pos
    let v :=
      match src with
      | .incremental =>
        p.cfg.signA.times p.cntA + p.cfg.signB.times p.cntB + p.offset
      | .absolute => p.absPos
    let written : State :=
      { s with
        meas :=
          { s.meas with
            latches :=
              updVec s.meas.latches slot fun l =>
                { value := v, stamp := some s.time.lineTime, source := src, isNew := true
                  overrun := l.isNew } } }
    (publish = none → s.request (.latch src slot publish) c = written) ∧
    (∀ d, publish = some d →
      s.request (.latch src slot publish) c =
        written.derive c.gen c.entry d
          { event := d.event, stamp := c.stamp, origin := .entry c.entry, gen := c.gen
            payload := some v, restamped := c.restamped })) ∧
  ∀ x : Value32, Sign.minus.times x = -x ∧ Sign.zero.times x = 0 ∧ Sign.plus.times x = x

/-- A PRESET request, in every station state and position mode: the offset alone changes, and the
incremental position is the value. What a sign makes of a counter. -/
def Obligations.PresetTaken : Prop :=
  (∀ (s : State) (v : Value32) (c : Cause),
    s.request (.preset v) c =
      { s with
        pos :=
          { s.pos with
            offset :=
              v - s.pos.cfg.signA.times s.pos.cntA - s.pos.cfg.signB.times s.pos.cntB } } ∧
    (s.request (.preset v) c).pos.incremental = v) ∧
  ∀ x : Value32, Sign.minus.times x = -x ∧ Sign.zero.times x = 0 ∧ Sign.plus.times x = x

/-- A COMPARE request: discarded outside ACTIVE and DRIFTED; else the outcome from the distance, the
margin and strict, what the mode forwards of it and what the runtime state becomes, and a forward's latch slot
and row. -/
def Obligations.CompareTaken : Prop :=
  ∀ (s : State) (k : Fin 2) (c : Cause),
    let g := s.meas.cmpCfg[k]
    let r := s.meas.cmpRun[k]
    let v := match g.source with | .incremental => s.pos.incremental | .absolute => s.pos.absPos
    let distance := (v - g.origin).toNat % 2 ^ g.maskBits.toNat
    let after := fun (r : CmpRuntime) =>
      ({ s with meas := { s.meas with cmpRun := updVec s.meas.cmpRun k fun _ => r } } : State)
    (s.isOpen = false → s.request (.compare k) c = s) ∧
    (s.isOpen = true → ∀ outcome : Bool,
      (outcome = true ↔
        (g.strict = false ∧ distance ≤ g.margin.toNat ∨
          g.strict = true ∧ distance < g.margin.toNat)) →
      let row : Fin 32 :=
        if k = 0 then (if outcome then 28 else 29) else (if outcome then 30 else 31)
      let slot := if outcome then g.trueSlot else g.falseSlot
      let forwarded := fun (t : State) =>
        ({ t with
          meas :=
            { t.meas with
              latches :=
                match slot with
                | none => s.meas.latches
                | some i =>
                  updVec s.meas.latches i fun l =>
                    { value := v, stamp := some s.time.lineTime, source := g.source
                      isNew := true, overrun := l.isNew } } } : State).fireDerived row c c.stamp
          (some v) c.restamped
      (g.mode = .off → s.request (.compare k) c = s) ∧
      (g.mode = .once → r.spent = false →
        s.request (.compare k) c = forwarded (after { last := some outcome, spent := true })) ∧
      (g.mode = .once → r.spent = true → s.request (.compare k) c = s) ∧
      (g.mode = .change → r.last = none →
        s.request (.compare k) c = after { r with last := some outcome }) ∧
      (g.mode = .change → r.last = some outcome → s.request (.compare k) c = s) ∧
      (g.mode = .change → r.last = some (!outcome) →
        s.request (.compare k) c = forwarded (after { r with last := some outcome })) ∧
      (g.mode = .every →
        s.request (.compare k) c = forwarded (after { r with last := some outcome })))

/-- A MEASURE request, in every station state: the slot is written whole from the `i`-th newest edge of
the chosen kind or from its absence, and nothing else changes. -/
def Obligations.MeasureTaken : Prop :=
  ∀ (s : State) (channel : Fin 8) (kind : EdgeSelect) (i : BitVec 4) (slot : Fin 8) (c : Cause),
    let edges := s.chans[channel].fifo.filter fun e =>
      match kind with
      | .rise => e.kind == .rise
      | .fall => e.kind == .fall
      | .either => true
    let written := fun (m : MeasSlot) =>
      s.request (.measure channel kind i slot) c =
        { s with meas := { s.meas with slots := updVec s.meas.slots slot fun _ => m } }
    let slotOf := fun (value : Int) (saturated : Bool) (e : Edge) =>
      ({ value := BitVec.ofInt 32 value, valid := true, saturated := saturated
         occStamp := some c.stamp, edge := some e, restamped := c.restamped } : MeasSlot)
    (edges.length ≤ i.toNat →
      written
        { value := 0, valid := false, saturated := false, occStamp := some c.stamp, edge := none
          restamped := c.restamped }) ∧
    (∀ e, edges[i.toNat]? = some e →
      let d := (c.stamp - e.stamp).toInt
      (-(2 ^ 31) ≤ d → d ≤ 2 ^ 31 - 1 → written (slotOf d false e)) ∧
      (2 ^ 31 - 1 < d → written (slotOf (2 ^ 31 - 1) true e)) ∧
      (d < -(2 ^ 31) → written (slotOf (-(2 ^ 31)) true e)))

/-! ### The field pins -/

/-- A transition of the sensed level: the filter's candidate is taken or discarded, and the readback
check of an ENABLED channel starts, goes on or stops. A change that a filter time of 0 has made due is counted
before (log 14). A transition of EDAT, which the model names as pin 8 (log 13), changes its level alone. -/
def Obligations.PinTransitionTaken : Prop :=
  (∀ (s : State) (c : Fin 8) (level : Level), s.resetHeld = false →
    (s.chans[c].sensed = level → exec (.pinTransition c.val level) s = .next s) ∧
    (s.chans[c].sensed ≠ level → (∀ k, s.chans[c].cand = some k → k.length ≠ 0) →
      exec (.pinTransition c.val level) s =
        .next
          { s with
            chans :=
              updVec s.chans c fun ch =>
                { ch with
                  sensed := level
                  cand :=
                    if level = ch.filtered then none
                    else
                      some
                        { stamp := s.time.lineTime, length := 100 * ch.cfg.filterMicros.toNat
                          left := 100 * ch.cfg.filterMicros.toNat }
                  mismatch :=
                    if ch.out = some .enabled then
                      if level = ch.lastCmd then none
                      else some (ch.mismatch.getD (100 * ch.cfg.checkDelay.toNat))
                    else ch.mismatch } }) ∧
    (s.chans[c].sensed ≠ level →
      ∀ k, s.chans[c].cand = some k → k.length = 0 → k.left = 0 →
        ∀ t, exec (.edgeCounted c.val) s = .next t →
          exec (.pinTransition c.val level) s = exec (.pinTransition c.val level) t)) ∧
  ∀ (s : State) (level : Level),
    exec (.pinTransition 8 level) s = .next { s with pos := { s.pos with edat := level } }

/-- The expiry of a filter timer counts the edge with its candidate's stamp: filtered level, FIFO,
counter; then, for an input, the row of its kind. Of IO0 and IO1 the inputs' edges of one instant reach the
position unit together, before their rows. -/
def Obligations.EdgeCountedTaken : Prop :=
  ∀ s : State, s.resetHeld = false →
    let edge := fun (c : Fin 8) =>
      match s.chans[c].cand with
      | some k =>
        if k.left = 0 then
          some
            ({ kind := if s.chans[c].sensed then .rise else .fall, stamp := k.stamp } : Edge)
        else none
      | none => none
    let counted := fun (c : Fin 8) (ch : Channel) =>
      match edge c with
      | some e =>
        { ch with
          filtered := ch.sensed, cand := none, fifo := (e :: ch.fifo).take 16
          rises := if ch.sensed then ch.rises + 1 else ch.rises
          falls := if ch.sensed then ch.falls else ch.falls + 1 }
      | none => ch
    let handed := fun (c : Fin 8) =>
      if s.chans[c].cfg.direction = .input then edge c else none
    let row := fun (c : Fin 8) =>
      if s.chans[c].sensed then (⟨c.val, by omega⟩ : Fin 32) else ⟨8 + c.val, by omega⟩
    let fire := fun (t : State) (c : Fin 8) =>
      match handed c with
      | some e => t.fireRow (row c) e.stamp none
      | none => t
    (∀ c : Fin 8, 2 ≤ c.val → (edge c).isSome = true →
      exec (.edgeCounted c.val) s =
        .next (fire { s with chans := updVec s.chans c (counted c) } c)) ∧
    (let both : State := { s with chans := updVec (updVec s.chans 0 (counted 0)) 1 (counted 1) }
     let moved :=
      if handed 0 = none ∧ handed 1 = none then both
      else
        both.takeHandOver
          { io0 := handed 0, io1 := handed 1, new0 := both.chans[0].filtered
            new1 := both.chans[1].filtered }
     ((edge 0).isSome = true → exec (.edgeCounted 0) s = .next (fire (fire moved 0) 1)) ∧
     ((edge 1).isSome = true → exec (.edgeCounted 1) s = .next (fire (fire moved 1) 0)))

/-- What a hand-over counts in each position mode, the level pair it leaves, and the illegal transition:
the error counted, and row 27 fired with the later stamp and the position unmoved. -/
def Obligations.PositionCounts : Prop :=
  (∀ (p : PositionUnit) (h : HandOver),
    let q := p.counted h
    let counts := fun (a b : Value32) (errors : Byte) =>
      q = { p with cntA := p.cntA + a, cntB := p.cntB + b, quadErrors := p.quadErrors + errors
                   pair0 := h.new0, pair1 := h.new1 }
    let rise := fun (e : Option Edge) => ∃ t, e = some { kind := .rise, stamp := t }
    let next : Level × Level → Level × Level := fun x =>
      if x = (false, false) then (true, false)
      else if x = (true, false) then (true, true)
      else if x = (true, true) then (false, true)
      else (false, false)
    let old := (p.pair0, p.pair1)
    let new := (h.new0, h.new1)
    (p.cfg.mode = .off → counts 0 0 0) ∧
    (p.cfg.mode = .edge →
      (rise h.io0 → rise h.io1 → counts 1 1 0) ∧ (rise h.io0 → ¬rise h.io1 → counts 1 0 0) ∧
      (¬rise h.io0 → rise h.io1 → counts 0 1 0) ∧ (¬rise h.io0 → ¬rise h.io1 → counts 0 0 0)) ∧
    (p.cfg.mode = .updown →
      (rise h.io0 → p.pair1 = false → counts 1 0 0) ∧
      (rise h.io0 → p.pair1 = true → counts 0 1 0) ∧ (¬rise h.io0 → counts 0 0 0)) ∧
    (p.cfg.mode = .quadrature →
      (next old = new → counts 1 0 0) ∧ (next new = old → counts 0 1 0) ∧
      (p.pair0 ≠ h.new0 → p.pair1 ≠ h.new1 → counts 0 0 1) ∧ (old = new → counts 0 0 0))) ∧
  (∀ (s : State) (h : HandOver),
    let t : State := { s with pos := s.pos.counted h }
    (s.pos.cfg.mode ≠ .quadrature ∨ s.pos.pair0 = h.new0 ∨ s.pos.pair1 = h.new1 →
      s.takeHandOver h = t) ∧
    (s.pos.cfg.mode = .quadrature → s.pos.pair0 ≠ h.new0 → s.pos.pair1 ≠ h.new1 →
      (∀ a, h.io0 = some a → h.io1 = none →
        s.takeHandOver h = t.fireRow 27 a.stamp (some s.pos.incremental)) ∧
      (∀ b, h.io0 = none → h.io1 = some b →
        s.takeHandOver h = t.fireRow 27 b.stamp (some s.pos.incremental)) ∧
      (∀ a b, h.io0 = some a → h.io1 = some b →
        (0 < (b.stamp - a.stamp).toInt →
          s.takeHandOver h = t.fireRow 27 b.stamp (some s.pos.incremental)) ∧
        ((b.stamp - a.stamp).toInt ≤ 0 →
          s.takeHandOver h = t.fireRow 27 a.stamp (some s.pos.incremental)))))

/-- A readback fault holds the channel off, reports the level that the pin did not follow, and fires its
row; the end of the hold-off drives the channel again with auto-restore and disables it without. -/
def Obligations.ReadbackAndHoldOff : Prop :=
  ∀ (s : State) (c : Fin 8), s.resetHeld = false →
    (s.chans[c].out = some .enabled → s.chans[c].mismatch = some 0 →
      exec (.readbackFault c.val) s =
        .next
          ((({ s with
            chans :=
              updVec s.chans c fun ch =>
                { ch with
                  out := some .heldOff, mismatch := none
                  holdOff := some (100000 * ch.cfg.holdOffMillis.toNat) } } : State).report
            (.outputFault c s.chans[c].lastCmd)).fireRow ⟨16 + c.val, by omega⟩
            s.time.lineTime none)) ∧
    (s.chans[c].out = some .heldOff → s.chans[c].holdOff = some 0 →
      (s.chans[c].cfg.autoRestore = true →
        exec (.holdOffExpiry c.val) s =
          .next
            (({ s with
              chans :=
                updVec s.chans c fun ch =>
                  { ch with
                    out := some .enabled, holdOff := none
                    mismatch :=
                      if ch.sensed = ch.lastCmd then none
                      else some (100 * ch.cfg.checkDelay.toNat) } } : State).report
              (.outputRestored c .auto))) ∧
      (s.chans[c].cfg.autoRestore = false →
        exec (.holdOffExpiry c.val) s =
          .next
            { s with
              chans :=
                updVec s.chans c fun ch => { ch with out := some .disabled, holdOff := none } }))

/-- The encoder reader: a CAPTURE starts a read in IDLE and is refused in SHIFTING and RECOVERY; the
completion keeps the decoded position where the check passes and reports the word where it fails, and enters
RECOVERY with the shift word as sampled, first sample first; the recovery expiry makes the reader IDLE and
fires ENC_READY. What the bits of a word spell, and what Gray decoding makes of them. That a completion names
its shift word (log 13), and that the shift word is kept after the completion (log 26), is the model's
choice. -/
def Obligations.EncoderReads : Prop :=
  (∀ s : State,
    (∀ c : Cause,
      (s.isOpen = false → s.request .capture c = s) ∧
      (s.isOpen = true → s.pos.reader = .idle →
        let g := s.pos.cfg.enc
        let period :=
          match g.clock with | .mhz1 => 100 | .khz500 => 200 | .khz250 => 400 | .khz125 => 800
        s.request .capture c =
          { s with
            pos :=
              { s.pos with
                reader := .shifting
                record := some { enc := g, start := s.time.lineTime, cause := c }
                shiftWord := []
                shiftLeft :=
                  some
                    ((g.totalBits.toNat + (if g.check = .none then 0 else 1)) * period) } }) ∧
      (s.isOpen = true → s.pos.reader ≠ .idle →
        s.request .capture c = s.report (.captureOverrun s.pos.reader c.entry))) ∧
    (s.resetHeld = false → ∀ r : ReadRecord,
      s.pos.reader = .shifting → s.pos.record = some r → s.pos.shiftLeft = some 0 →
      let samples := s.pos.shiftWord
      let n := r.enc.totalBits.toNat
      let word := samples.take n
      let bits := match r.enc.coding with | .binary => word | .gray => grayDecode false word
      let value := BitVec.ofNat 32 (bitsValue bits % 2 ^ r.enc.validBits.toNat)
      let recovering :=
        { s.pos with
          reader := .recovery, shiftLeft := none
          recovery := some (100 * r.enc.recoveryMicros.toNat) }
      let passed :=
        r.enc.check = .none ∨ r.enc.check = .high ∧ samples[n]? = some true ∨
          r.enc.check = .low ∧ samples[n]? = some false
      .encoderReadComplete samples ∈ s.dueEvents ∧
      (∀ other, other ≠ samples → exec (.encoderReadComplete other) s = .next s) ∧
      (passed →
        exec (.encoderReadComplete samples) s =
          .next
            (({ s with
              pos := { recovering with absPos := value, absStamp := some r.start } } :
              State).fireDerived 24 r.cause r.start (some value) false)) ∧
      (¬passed →
        exec (.encoderReadComplete samples) s =
          .next
            ((({ s with pos := recovering } : State).report
              (.encoderFault (BitVec.ofNat 32 (bitsValue word)) r.cause.entry)).fireDerived 26
              r.cause r.start none false))) ∧
    (s.resetHeld = false → ∀ r : ReadRecord,
      s.pos.reader = .recovery → s.pos.recovery = some 0 → s.pos.record = some r →
      exec .recoveryExpiry s =
        .next
          (({ s with
            pos := { s.pos with reader := .idle, recovery := none, record := none } } :
            State).fireDerived 25 r.cause s.time.lineTime none false))) ∧
  bitsValue [] = 0 ∧
  (∀ (l : List Level) (b : Level), bitsValue (l ++ [b]) = 2 * bitsValue l + b.toNat) ∧
  (∀ l : List Level,
    (grayDecode false l).length = l.length ∧ (grayDecode false l).head? = l.head? ∧
    ∀ (i : Nat) (above b : Level), (grayDecode false l)[i]? = some above → l[i + 1]? = some b →
      (grayDecode false l)[i + 1]? = some (b ^^ above))

/-! ### Formats -/

/-- A notice as sent, its characters as R109 frames them, is read complete and valid, and every field is
read as it was sent. -/
def Obligations.NoticeReadAsSent : Prop :=
  let read := fun (l : List Byte) (got : Received) =>
    let r := readChars (l.map fun b => { start := false, data := b, stop := true }) []
    r = (l, .complete) ∧ validNotice r.1 r.2 = some got
  (∀ (n : StationNo) (synced : Bool) (q : Byte) (prev : Option LineTime),
    read (withCrc (syncBytes n synced q prev)) (.sync n synced q prev)) ∧
  (∀ (p : Priority) (n : StationNo) (synced : Bool) (o : Occurrence), o.event ≠ 0 →
    read (withCrc (eventBytes p n synced o))
      (.event n synced o.event o.gen o.stamp o.payload)) ∧
  (∀ (p : Priority) (n : StationNo) (synced : Bool) (reason : Byte),
    read (withCrc (leaveBytes p n synced reason)) (.leave n reason)) ∧
  (∀ b : Byte,
    charBits b =
      [false, b.getLsbD 7, b.getLsbD 6, b.getLsbD 5, b.getLsbD 4, b.getLsbD 3, b.getLsbD 2,
        b.getLsbD 1, b.getLsbD 0, true])

/-- A configuration record that a STORE accepted, loaded into the staging area, passes the checks again
and is stored as it was: no field is lost between the table and the staging area. -/
def Obligations.RecordReadAsStored : Prop :=
  (∀ g : StationConfig, stagedStation (stagingOf g.bytes) = g) ∧
  (∀ v r b, checkBinding v r = .ok b → checkBinding (stagingOf b.bytes) r = .ok b) ∧
  (∀ v e, checkSub v = .ok e → checkSub (stagingOf e.bytes) = .ok e) ∧
  (∀ v g, checkCmp v = .ok g → checkCmp (stagingOf g.bytes) = .ok g) ∧
  (∀ v g, checkChan v = .ok g → checkChan (stagingOf g.bytes) = .ok g) ∧
  (∀ v g, checkPos v = .ok g → checkPos (stagingOf g.bytes) = .ok g)

/-! ### Invariants -/

/-- No step makes a collection of the part hold more than it has places for. Every step keeps the peer time
table in ascending station number (log 22), without a record of the own number, its ages at most 3; and the
schedule in the order of due times and, at one due time, of the stampings, its remaining counts at least 1 (and
those of a DRIVE under way, log 30), where the entries' times lie within the range in which line times can be
compared. -/
def Obligations.CapacitiesKept : Prop :=
  ∀ s t : State, step s = .next t →
    (s.Bounded → t.Bounded) ∧
    (s.PeersLegal → t.PeersLegal) ∧
    (s.ScheduleLegal → s.ScheduleNear → t.ScheduleNear → t.ScheduleLegal)

/-- Every step keeps what the station state says of the blocks it opens and closes, and of a stuck line's
ticks (log 33) and the wait for a gap after a bit error (log 32). -/
def Obligations.LifeCycleKept : Prop :=
  ∀ s t : State, s.LifeCycle → step s = .next t → t.LifeCycle

/-- Every step keeps an open overflow record at the tail alone, a full report queue ending in one, and
a removable head present. -/
def Obligations.ReportQueueKept : Prop :=
  ∀ s t : State, s.ReportsLegal → step s = .next t → t.ReportsLegal

/-- Every step keeps the transmit queue in priority order, with the errored attempts below 3 and one
notice in transmission exactly during an attempt. -/
def Obligations.TransmitQueueKept : Prop :=
  ∀ s t : State, s.TransmitLegal → step s = .next t → t.TransmitLegal

/-- Every step keeps the channels, the encoder reader, the latch table and the armed flags legal. -/
def Obligations.FieldSideKept : Prop :=
  ∀ s t : State, s.FieldLegal → step s = .next t → t.FieldLegal

/-- The reset state has every invariant. -/
def Obligations.ResetHasInvariants : Prop :=
  State.reset.Bounded ∧ State.reset.LifeCycle ∧ State.reset.ReportsLegal ∧
    State.reset.TransmitLegal ∧ State.reset.FieldLegal ∧ State.reset.PeersLegal ∧
    State.reset.ScheduleLegal ∧ State.reset.ScheduleNear
end

