-- ==== Sys2Proof/Laws/State.lean ====
section
/-! SUPPORT. What each block update reads back as, field by field: true by definition, so that no
proof unfolds a record update. -/

namespace Sys2Proof.Machine

variable (s : State)

/-! ### `State.setLine` -/

@[simp] theorem State.setLine_line (b : LineEngine) : (s.setLine b).line = b := rfl
@[simp] theorem State.setLine_time (b : LineEngine) : (s.setLine b).time = s.time := rfl
@[simp] theorem State.setLine_station (b : LineEngine) : (s.setLine b).station = s.station := rfl
@[simp] theorem State.setLine_disp (b : LineEngine) : (s.setLine b).disp = s.disp := rfl
@[simp] theorem State.setLine_sched (b : LineEngine) : (s.setLine b).sched = s.sched := rfl
@[simp] theorem State.setLine_chans (b : LineEngine) : (s.setLine b).chans = s.chans := rfl
@[simp] theorem State.setLine_pos (b : LineEngine) : (s.setLine b).pos = s.pos := rfl
@[simp] theorem State.setLine_meas (b : LineEngine) : (s.setLine b).meas = s.meas := rfl
@[simp] theorem State.setLine_host (b : LineEngine) : (s.setLine b).host = s.host := rfl
@[simp] theorem State.setLine_resetHeld (b : LineEngine) : (s.setLine b).resetHeld = s.resetHeld := rfl
@[simp] theorem State.setLine_choices (b : LineEngine) : (s.setLine b).choices = s.choices := rfl
@[simp] theorem State.setLine_pending (b : LineEngine) : (s.setLine b).pending = s.pending := rfl

/-! ### `State.setTime` -/

@[simp] theorem State.setTime_line (b : TimeUnit) : (s.setTime b).line = s.line := rfl
@[simp] theorem State.setTime_time (b : TimeUnit) : (s.setTime b).time = b := rfl
@[simp] theorem State.setTime_station (b : TimeUnit) : (s.setTime b).station = s.station := rfl
@[simp] theorem State.setTime_disp (b : TimeUnit) : (s.setTime b).disp = s.disp := rfl
@[simp] theorem State.setTime_sched (b : TimeUnit) : (s.setTime b).sched = s.sched := rfl
@[simp] theorem State.setTime_chans (b : TimeUnit) : (s.setTime b).chans = s.chans := rfl
@[simp] theorem State.setTime_pos (b : TimeUnit) : (s.setTime b).pos = s.pos := rfl
@[simp] theorem State.setTime_meas (b : TimeUnit) : (s.setTime b).meas = s.meas := rfl
@[simp] theorem State.setTime_host (b : TimeUnit) : (s.setTime b).host = s.host := rfl
@[simp] theorem State.setTime_resetHeld (b : TimeUnit) : (s.setTime b).resetHeld = s.resetHeld := rfl
@[simp] theorem State.setTime_choices (b : TimeUnit) : (s.setTime b).choices = s.choices := rfl
@[simp] theorem State.setTime_pending (b : TimeUnit) : (s.setTime b).pending = s.pending := rfl

/-! ### `State.setStation` -/

@[simp] theorem State.setStation_line (b : StationUnit) : (s.setStation b).line = s.line := rfl
@[simp] theorem State.setStation_time (b : StationUnit) : (s.setStation b).time = s.time := rfl
@[simp] theorem State.setStation_station (b : StationUnit) : (s.setStation b).station = b := rfl
@[simp] theorem State.setStation_disp (b : StationUnit) : (s.setStation b).disp = s.disp := rfl
@[simp] theorem State.setStation_sched (b : StationUnit) : (s.setStation b).sched = s.sched := rfl
@[simp] theorem State.setStation_chans (b : StationUnit) : (s.setStation b).chans = s.chans := rfl
@[simp] theorem State.setStation_pos (b : StationUnit) : (s.setStation b).pos = s.pos := rfl
@[simp] theorem State.setStation_meas (b : StationUnit) : (s.setStation b).meas = s.meas := rfl
@[simp] theorem State.setStation_host (b : StationUnit) : (s.setStation b).host = s.host := rfl
@[simp] theorem State.setStation_resetHeld (b : StationUnit) : (s.setStation b).resetHeld = s.resetHeld := rfl
@[simp] theorem State.setStation_choices (b : StationUnit) : (s.setStation b).choices = s.choices := rfl
@[simp] theorem State.setStation_pending (b : StationUnit) : (s.setStation b).pending = s.pending := rfl

/-! ### `State.setDisp` -/

@[simp] theorem State.setDisp_line (b : DispatchUnit) : (s.setDisp b).line = s.line := rfl
@[simp] theorem State.setDisp_time (b : DispatchUnit) : (s.setDisp b).time = s.time := rfl
@[simp] theorem State.setDisp_station (b : DispatchUnit) : (s.setDisp b).station = s.station := rfl
@[simp] theorem State.setDisp_disp (b : DispatchUnit) : (s.setDisp b).disp = b := rfl
@[simp] theorem State.setDisp_sched (b : DispatchUnit) : (s.setDisp b).sched = s.sched := rfl
@[simp] theorem State.setDisp_chans (b : DispatchUnit) : (s.setDisp b).chans = s.chans := rfl
@[simp] theorem State.setDisp_pos (b : DispatchUnit) : (s.setDisp b).pos = s.pos := rfl
@[simp] theorem State.setDisp_meas (b : DispatchUnit) : (s.setDisp b).meas = s.meas := rfl
@[simp] theorem State.setDisp_host (b : DispatchUnit) : (s.setDisp b).host = s.host := rfl
@[simp] theorem State.setDisp_resetHeld (b : DispatchUnit) : (s.setDisp b).resetHeld = s.resetHeld := rfl
@[simp] theorem State.setDisp_choices (b : DispatchUnit) : (s.setDisp b).choices = s.choices := rfl
@[simp] theorem State.setDisp_pending (b : DispatchUnit) : (s.setDisp b).pending = s.pending := rfl

/-! ### `State.setSched` -/

@[simp] theorem State.setSched_line (b : ScheduleUnit) : (s.setSched b).line = s.line := rfl
@[simp] theorem State.setSched_time (b : ScheduleUnit) : (s.setSched b).time = s.time := rfl
@[simp] theorem State.setSched_station (b : ScheduleUnit) : (s.setSched b).station = s.station := rfl
@[simp] theorem State.setSched_disp (b : ScheduleUnit) : (s.setSched b).disp = s.disp := rfl
@[simp] theorem State.setSched_sched (b : ScheduleUnit) : (s.setSched b).sched = b := rfl
@[simp] theorem State.setSched_chans (b : ScheduleUnit) : (s.setSched b).chans = s.chans := rfl
@[simp] theorem State.setSched_pos (b : ScheduleUnit) : (s.setSched b).pos = s.pos := rfl
@[simp] theorem State.setSched_meas (b : ScheduleUnit) : (s.setSched b).meas = s.meas := rfl
@[simp] theorem State.setSched_host (b : ScheduleUnit) : (s.setSched b).host = s.host := rfl
@[simp] theorem State.setSched_resetHeld (b : ScheduleUnit) : (s.setSched b).resetHeld = s.resetHeld := rfl
@[simp] theorem State.setSched_choices (b : ScheduleUnit) : (s.setSched b).choices = s.choices := rfl
@[simp] theorem State.setSched_pending (b : ScheduleUnit) : (s.setSched b).pending = s.pending := rfl

/-! ### `State.setChans` -/

@[simp] theorem State.setChans_line (b : Vector Channel 8) : (s.setChans b).line = s.line := rfl
@[simp] theorem State.setChans_time (b : Vector Channel 8) : (s.setChans b).time = s.time := rfl
@[simp] theorem State.setChans_station (b : Vector Channel 8) : (s.setChans b).station = s.station := rfl
@[simp] theorem State.setChans_disp (b : Vector Channel 8) : (s.setChans b).disp = s.disp := rfl
@[simp] theorem State.setChans_sched (b : Vector Channel 8) : (s.setChans b).sched = s.sched := rfl
@[simp] theorem State.setChans_chans (b : Vector Channel 8) : (s.setChans b).chans = b := rfl
@[simp] theorem State.setChans_pos (b : Vector Channel 8) : (s.setChans b).pos = s.pos := rfl
@[simp] theorem State.setChans_meas (b : Vector Channel 8) : (s.setChans b).meas = s.meas := rfl
@[simp] theorem State.setChans_host (b : Vector Channel 8) : (s.setChans b).host = s.host := rfl
@[simp] theorem State.setChans_resetHeld (b : Vector Channel 8) : (s.setChans b).resetHeld = s.resetHeld := rfl
@[simp] theorem State.setChans_choices (b : Vector Channel 8) : (s.setChans b).choices = s.choices := rfl
@[simp] theorem State.setChans_pending (b : Vector Channel 8) : (s.setChans b).pending = s.pending := rfl

/-! ### `State.setPos` -/

@[simp] theorem State.setPos_line (b : PositionUnit) : (s.setPos b).line = s.line := rfl
@[simp] theorem State.setPos_time (b : PositionUnit) : (s.setPos b).time = s.time := rfl
@[simp] theorem State.setPos_station (b : PositionUnit) : (s.setPos b).station = s.station := rfl
@[simp] theorem State.setPos_disp (b : PositionUnit) : (s.setPos b).disp = s.disp := rfl
@[simp] theorem State.setPos_sched (b : PositionUnit) : (s.setPos b).sched = s.sched := rfl
@[simp] theorem State.setPos_chans (b : PositionUnit) : (s.setPos b).chans = s.chans := rfl
@[simp] theorem State.setPos_pos (b : PositionUnit) : (s.setPos b).pos = b := rfl
@[simp] theorem State.setPos_meas (b : PositionUnit) : (s.setPos b).meas = s.meas := rfl
@[simp] theorem State.setPos_host (b : PositionUnit) : (s.setPos b).host = s.host := rfl
@[simp] theorem State.setPos_resetHeld (b : PositionUnit) : (s.setPos b).resetHeld = s.resetHeld := rfl
@[simp] theorem State.setPos_choices (b : PositionUnit) : (s.setPos b).choices = s.choices := rfl
@[simp] theorem State.setPos_pending (b : PositionUnit) : (s.setPos b).pending = s.pending := rfl

/-! ### `State.setMeas` -/

@[simp] theorem State.setMeas_line (b : MeasureUnit) : (s.setMeas b).line = s.line := rfl
@[simp] theorem State.setMeas_time (b : MeasureUnit) : (s.setMeas b).time = s.time := rfl
@[simp] theorem State.setMeas_station (b : MeasureUnit) : (s.setMeas b).station = s.station := rfl
@[simp] theorem State.setMeas_disp (b : MeasureUnit) : (s.setMeas b).disp = s.disp := rfl
@[simp] theorem State.setMeas_sched (b : MeasureUnit) : (s.setMeas b).sched = s.sched := rfl
@[simp] theorem State.setMeas_chans (b : MeasureUnit) : (s.setMeas b).chans = s.chans := rfl
@[simp] theorem State.setMeas_pos (b : MeasureUnit) : (s.setMeas b).pos = s.pos := rfl
@[simp] theorem State.setMeas_meas (b : MeasureUnit) : (s.setMeas b).meas = b := rfl
@[simp] theorem State.setMeas_host (b : MeasureUnit) : (s.setMeas b).host = s.host := rfl
@[simp] theorem State.setMeas_resetHeld (b : MeasureUnit) : (s.setMeas b).resetHeld = s.resetHeld := rfl
@[simp] theorem State.setMeas_choices (b : MeasureUnit) : (s.setMeas b).choices = s.choices := rfl
@[simp] theorem State.setMeas_pending (b : MeasureUnit) : (s.setMeas b).pending = s.pending := rfl

/-! ### `State.setHost` -/

@[simp] theorem State.setHost_line (b : HostUnit) : (s.setHost b).line = s.line := rfl
@[simp] theorem State.setHost_time (b : HostUnit) : (s.setHost b).time = s.time := rfl
@[simp] theorem State.setHost_station (b : HostUnit) : (s.setHost b).station = s.station := rfl
@[simp] theorem State.setHost_disp (b : HostUnit) : (s.setHost b).disp = s.disp := rfl
@[simp] theorem State.setHost_sched (b : HostUnit) : (s.setHost b).sched = s.sched := rfl
@[simp] theorem State.setHost_chans (b : HostUnit) : (s.setHost b).chans = s.chans := rfl
@[simp] theorem State.setHost_pos (b : HostUnit) : (s.setHost b).pos = s.pos := rfl
@[simp] theorem State.setHost_meas (b : HostUnit) : (s.setHost b).meas = s.meas := rfl
@[simp] theorem State.setHost_host (b : HostUnit) : (s.setHost b).host = b := rfl
@[simp] theorem State.setHost_resetHeld (b : HostUnit) : (s.setHost b).resetHeld = s.resetHeld := rfl
@[simp] theorem State.setHost_choices (b : HostUnit) : (s.setHost b).choices = s.choices := rfl
@[simp] theorem State.setHost_pending (b : HostUnit) : (s.setHost b).pending = s.pending := rfl

/-! ### `State.setPending` -/

@[simp] theorem State.setPending_line (b : List Instr) : (s.setPending b).line = s.line := rfl
@[simp] theorem State.setPending_time (b : List Instr) : (s.setPending b).time = s.time := rfl
@[simp] theorem State.setPending_station (b : List Instr) : (s.setPending b).station = s.station := rfl
@[simp] theorem State.setPending_disp (b : List Instr) : (s.setPending b).disp = s.disp := rfl
@[simp] theorem State.setPending_sched (b : List Instr) : (s.setPending b).sched = s.sched := rfl
@[simp] theorem State.setPending_chans (b : List Instr) : (s.setPending b).chans = s.chans := rfl
@[simp] theorem State.setPending_pos (b : List Instr) : (s.setPending b).pos = s.pos := rfl
@[simp] theorem State.setPending_meas (b : List Instr) : (s.setPending b).meas = s.meas := rfl
@[simp] theorem State.setPending_host (b : List Instr) : (s.setPending b).host = s.host := rfl
@[simp] theorem State.setPending_resetHeld (b : List Instr) : (s.setPending b).resetHeld = s.resetHeld := rfl
@[simp] theorem State.setPending_choices (b : List Instr) : (s.setPending b).choices = s.choices := rfl
@[simp] theorem State.setPending_pending (b : List Instr) : (s.setPending b).pending = b := rfl

/-! ### `State.useChoices` -/

@[simp] theorem State.useChoices_line (n : Nat) : (s.useChoices n).line = s.line := rfl
@[simp] theorem State.useChoices_time (n : Nat) : (s.useChoices n).time = s.time := rfl
@[simp] theorem State.useChoices_station (n : Nat) : (s.useChoices n).station = s.station := rfl
@[simp] theorem State.useChoices_disp (n : Nat) : (s.useChoices n).disp = s.disp := rfl
@[simp] theorem State.useChoices_sched (n : Nat) : (s.useChoices n).sched = s.sched := rfl
@[simp] theorem State.useChoices_chans (n : Nat) : (s.useChoices n).chans = s.chans := rfl
@[simp] theorem State.useChoices_pos (n : Nat) : (s.useChoices n).pos = s.pos := rfl
@[simp] theorem State.useChoices_meas (n : Nat) : (s.useChoices n).meas = s.meas := rfl
@[simp] theorem State.useChoices_host (n : Nat) : (s.useChoices n).host = s.host := rfl
@[simp] theorem State.useChoices_resetHeld (n : Nat) : (s.useChoices n).resetHeld = s.resetHeld := rfl
@[simp] theorem State.useChoices_choices (n : Nat) : (s.useChoices n).choices = s.choices + n := rfl
@[simp] theorem State.useChoices_pending (n : Nat) : (s.useChoices n).pending = s.pending := rfl

/-! ### `State.setChan` -/

@[simp] theorem State.setChan_line (c : Fin 8) (f : Channel → Channel) :
    (s.setChan c f).line = s.line := rfl
@[simp] theorem State.setChan_time (c : Fin 8) (f : Channel → Channel) :
    (s.setChan c f).time = s.time := rfl
@[simp] theorem State.setChan_station (c : Fin 8) (f : Channel → Channel) :
    (s.setChan c f).station = s.station := rfl
@[simp] theorem State.setChan_disp (c : Fin 8) (f : Channel → Channel) :
    (s.setChan c f).disp = s.disp := rfl
@[simp] theorem State.setChan_sched (c : Fin 8) (f : Channel → Channel) :
    (s.setChan c f).sched = s.sched := rfl
@[simp] theorem State.setChan_chans (c : Fin 8) (f : Channel → Channel) :
    (s.setChan c f).chans = updVec s.chans c f := rfl
@[simp] theorem State.setChan_pos (c : Fin 8) (f : Channel → Channel) :
    (s.setChan c f).pos = s.pos := rfl
@[simp] theorem State.setChan_meas (c : Fin 8) (f : Channel → Channel) :
    (s.setChan c f).meas = s.meas := rfl
@[simp] theorem State.setChan_host (c : Fin 8) (f : Channel → Channel) :
    (s.setChan c f).host = s.host := rfl
@[simp] theorem State.setChan_resetHeld (c : Fin 8) (f : Channel → Channel) :
    (s.setChan c f).resetHeld = s.resetHeld := rfl
@[simp] theorem State.setChan_choices (c : Fin 8) (f : Channel → Channel) :
    (s.setChan c f).choices = s.choices := rfl
@[simp] theorem State.setChan_pending (c : Fin 8) (f : Channel → Channel) :
    (s.setChan c f).pending = s.pending := rfl

/-! ### What is open reads the station state alone -/

theorem State.isOpen_of_station {s t : State} (h : t.station = s.station) : t.isOpen = s.isOpen := by
  simp only [State.isOpen, h]

end Sys2Proof.Machine
end

