-- ==== Sys2Proof/Laws/Frames.lean ====
section
/-! SUPPORT. What each shared operation leaves unchanged: one lemma per operation, which the proofs
cite in place of unfolding it. -/

namespace Sys2Proof.Machine

variable (s : State)

/-! ### Reports and arrivals -/

@[simp] theorem State.reportAt_frame (t : LineTime) (b : ReportBody) :
    (s.reportAt t b).line = s.line ∧ (s.reportAt t b).time = s.time ∧
      (s.reportAt t b).station = s.station ∧ (s.reportAt t b).disp = s.disp ∧
      (s.reportAt t b).sched = s.sched ∧ (s.reportAt t b).chans = s.chans ∧
      (s.reportAt t b).pos = s.pos ∧ (s.reportAt t b).meas = s.meas ∧
      (s.reportAt t b).resetHeld = s.resetHeld ∧ (s.reportAt t b).choices = s.choices ∧
      (s.reportAt t b).pending = s.pending := by
  simp [State.reportAt]

@[simp] theorem State.report_frame (b : ReportBody) :
    (s.report b).line = s.line ∧ (s.report b).time = s.time ∧ (s.report b).station = s.station ∧
      (s.report b).disp = s.disp ∧ (s.report b).sched = s.sched ∧ (s.report b).chans = s.chans ∧
      (s.report b).pos = s.pos ∧ (s.report b).meas = s.meas ∧
      (s.report b).resetHeld = s.resetHeld ∧ (s.report b).choices = s.choices ∧
      (s.report b).pending = s.pending := by
  simp [State.report]

@[simp] theorem State.reportAll_frame (l : List ReportBody) :
    (s.reportAll l).line = s.line ∧ (s.reportAll l).time = s.time ∧
      (s.reportAll l).station = s.station ∧ (s.reportAll l).disp = s.disp ∧
      (s.reportAll l).sched = s.sched ∧ (s.reportAll l).chans = s.chans ∧
      (s.reportAll l).pos = s.pos ∧ (s.reportAll l).meas = s.meas ∧
      (s.reportAll l).resetHeld = s.resetHeld ∧ (s.reportAll l).choices = s.choices ∧
      (s.reportAll l).pending = s.pending := by
  induction l generalizing s with
  | nil => simp [State.reportAll]
  | cons b l ih =>
    have h := ih (s.report b)
    simpa [State.reportAll] using h

@[simp] theorem State.arrive_frame (o : Occurrence) :
    (s.arrive o).line = s.line ∧ (s.arrive o).time = s.time ∧ (s.arrive o).station = s.station ∧
      (s.arrive o).sched = s.sched ∧ (s.arrive o).chans = s.chans ∧ (s.arrive o).pos = s.pos ∧
      (s.arrive o).meas = s.meas ∧ (s.arrive o).resetHeld = s.resetHeld ∧
      (s.arrive o).choices = s.choices ∧ (s.arrive o).pending = s.pending := by
  unfold State.arrive; (repeat' split) <;> simp

@[simp] theorem State.joinTx_frame (n : Notice) :
    (s.joinTx n).time = s.time ∧ (s.joinTx n).station = s.station ∧ (s.joinTx n).disp = s.disp ∧
      (s.joinTx n).sched = s.sched ∧ (s.joinTx n).chans = s.chans ∧ (s.joinTx n).pos = s.pos ∧
      (s.joinTx n).meas = s.meas ∧ (s.joinTx n).host = s.host ∧
      (s.joinTx n).resetHeld = s.resetHeld ∧ (s.joinTx n).choices = s.choices ∧
      (s.joinTx n).pending = s.pending := by
  simp [State.joinTx]

@[simp] theorem State.handOver_frame (p : Priority) (o : Occurrence) :
    (s.handOver p o).time = s.time ∧ (s.handOver p o).station = s.station ∧
      (s.handOver p o).disp = s.disp ∧ (s.handOver p o).sched = s.sched ∧
      (s.handOver p o).chans = s.chans ∧ (s.handOver p o).pos = s.pos ∧
      (s.handOver p o).meas = s.meas ∧ (s.handOver p o).resetHeld = s.resetHeld ∧
      (s.handOver p o).choices = s.choices ∧ (s.handOver p o).pending = s.pending := by
  unfold State.handOver; (repeat' split) <;> simp

@[simp] theorem State.raise_frame (c : Scope) (p : Priority) (o : Occurrence) :
    (s.raise c p o).time = s.time ∧ (s.raise c p o).station = s.station ∧
      (s.raise c p o).sched = s.sched ∧ (s.raise c p o).chans = s.chans ∧
      (s.raise c p o).pos = s.pos ∧ (s.raise c p o).meas = s.meas ∧
      (s.raise c p o).resetHeld = s.resetHeld ∧ (s.raise c p o).choices = s.choices ∧
      (s.raise c p o).pending = s.pending := by
  cases c <;> simp [State.raise]

@[simp] theorem State.fireRow_frame (r : Fin 32) (t : LineTime) (v : Option Value32) :
    (s.fireRow r t v).time = s.time ∧ (s.fireRow r t v).station = s.station ∧
      (s.fireRow r t v).sched = s.sched ∧ (s.fireRow r t v).chans = s.chans ∧
      (s.fireRow r t v).pos = s.pos ∧ (s.fireRow r t v).meas = s.meas ∧
      (s.fireRow r t v).resetHeld = s.resetHeld ∧ (s.fireRow r t v).choices = s.choices ∧
      (s.fireRow r t v).pending = s.pending := by
  simp only [State.fireRow]; split <;> simp

@[simp] theorem State.derive_frame (g : Generation) (e : Fin 64) (d : EventDesc) (o : Occurrence) :
    (s.derive g e d o).time = s.time ∧ (s.derive g e d o).station = s.station ∧
      (s.derive g e d o).sched = s.sched ∧ (s.derive g e d o).chans = s.chans ∧
      (s.derive g e d o).pos = s.pos ∧ (s.derive g e d o).meas = s.meas ∧
      (s.derive g e d o).resetHeld = s.resetHeld ∧ (s.derive g e d o).choices = s.choices ∧
      (s.derive g e d o).pending = s.pending := by
  unfold State.derive; (repeat' split) <;> simp

@[simp] theorem State.fireDerived_frame (r : Fin 32) (c : Cause) (t : LineTime) (v : Option Value32) (m : Bool) :
    (s.fireDerived r c t v m).time = s.time ∧ (s.fireDerived r c t v m).station = s.station ∧
      (s.fireDerived r c t v m).sched = s.sched ∧ (s.fireDerived r c t v m).chans = s.chans ∧
      (s.fireDerived r c t v m).pos = s.pos ∧ (s.fireDerived r c t v m).meas = s.meas ∧
      (s.fireDerived r c t v m).resetHeld = s.resetHeld ∧
      (s.fireDerived r c t v m).choices = s.choices ∧
      (s.fireDerived r c t v m).pending = s.pending := by
  simp only [State.fireDerived]; split <;> simp

/-! ### Channels and outputs -/

@[simp] theorem State.updateOutputs_frame (m l : Byte) :
    (s.updateOutputs m l).line = s.line ∧ (s.updateOutputs m l).time = s.time ∧
      (s.updateOutputs m l).station = s.station ∧ (s.updateOutputs m l).disp = s.disp ∧
      (s.updateOutputs m l).sched = s.sched ∧ (s.updateOutputs m l).pos = s.pos ∧
      (s.updateOutputs m l).meas = s.meas ∧ (s.updateOutputs m l).host = s.host ∧
      (s.updateOutputs m l).resetHeld = s.resetHeld ∧ (s.updateOutputs m l).choices = s.choices ∧
      (s.updateOutputs m l).pending = s.pending := by
  simp [State.updateOutputs]

@[simp] theorem State.restOutputs_frame :
    (s.restOutputs).line = s.line ∧ (s.restOutputs).time = s.time ∧
      (s.restOutputs).station = s.station ∧ (s.restOutputs).disp = s.disp ∧
      (s.restOutputs).sched = s.sched ∧ (s.restOutputs).pos = s.pos ∧
      (s.restOutputs).meas = s.meas ∧ (s.restOutputs).host = s.host ∧
      (s.restOutputs).resetHeld = s.resetHeld ∧ (s.restOutputs).choices = s.choices ∧
      (s.restOutputs).pending = s.pending := by
  simp [State.restOutputs]

@[simp] theorem State.readbackFault_frame (c : Fin 8) :
    (s.readbackFault c).time = s.time ∧ (s.readbackFault c).station = s.station ∧
      (s.readbackFault c).sched = s.sched ∧ (s.readbackFault c).pos = s.pos ∧
      (s.readbackFault c).meas = s.meas ∧ (s.readbackFault c).resetHeld = s.resetHeld ∧
      (s.readbackFault c).choices = s.choices ∧ (s.readbackFault c).pending = s.pending := by
  simp [State.readbackFault]

@[simp] theorem State.holdOffExpiry_frame (c : Fin 8) :
    (s.holdOffExpiry c).line = s.line ∧ (s.holdOffExpiry c).time = s.time ∧
      (s.holdOffExpiry c).station = s.station ∧ (s.holdOffExpiry c).disp = s.disp ∧
      (s.holdOffExpiry c).sched = s.sched ∧ (s.holdOffExpiry c).pos = s.pos ∧
      (s.holdOffExpiry c).meas = s.meas ∧ (s.holdOffExpiry c).resetHeld = s.resetHeld ∧
      (s.holdOffExpiry c).choices = s.choices ∧ (s.holdOffExpiry c).pending = s.pending := by
  unfold State.holdOffExpiry; (repeat' split) <;> simp

@[simp] theorem State.stepChannels_frame (d : BitVec 48) :
    (s.stepChannels d).line = s.line ∧ (s.stepChannels d).time = s.time ∧
      (s.stepChannels d).station = s.station ∧ (s.stepChannels d).disp = s.disp ∧
      (s.stepChannels d).sched = s.sched ∧ (s.stepChannels d).pos = s.pos ∧
      (s.stepChannels d).meas = s.meas ∧ (s.stepChannels d).host = s.host ∧
      (s.stepChannels d).resetHeld = s.resetHeld ∧ (s.stepChannels d).choices = s.choices ∧
      (s.stepChannels d).pending = s.pending := by
  simp [State.stepChannels]

@[simp] theorem State.edatLevel_frame (n : Nat) (l : Level) :
    (s.edatLevel n l).line = s.line ∧ (s.edatLevel n l).time = s.time ∧
      (s.edatLevel n l).station = s.station ∧ (s.edatLevel n l).disp = s.disp ∧
      (s.edatLevel n l).sched = s.sched ∧ (s.edatLevel n l).chans = s.chans ∧
      (s.edatLevel n l).meas = s.meas ∧ (s.edatLevel n l).host = s.host ∧
      (s.edatLevel n l).resetHeld = s.resetHeld ∧ (s.edatLevel n l).choices = s.choices ∧
      (s.edatLevel n l).pending = s.pending := by
  unfold State.edatLevel; (repeat' split) <;> simp

@[simp] theorem State.emptyFifos_frame :
    (s.emptyFifos).line = s.line ∧ (s.emptyFifos).time = s.time ∧
      (s.emptyFifos).station = s.station ∧ (s.emptyFifos).disp = s.disp ∧
      (s.emptyFifos).sched = s.sched ∧ (s.emptyFifos).pos = s.pos ∧
      (s.emptyFifos).meas = s.meas ∧ (s.emptyFifos).host = s.host ∧
      (s.emptyFifos).resetHeld = s.resetHeld ∧ (s.emptyFifos).choices = s.choices ∧
      (s.emptyFifos).pending = s.pending := by
  simp [State.emptyFifos]

@[simp] theorem State.acceptEdge_frame (c : Fin 8) (e : Option Edge) :
    (s.acceptEdge c e).line = s.line ∧ (s.acceptEdge c e).time = s.time ∧
      (s.acceptEdge c e).station = s.station ∧ (s.acceptEdge c e).disp = s.disp ∧
      (s.acceptEdge c e).sched = s.sched ∧ (s.acceptEdge c e).pos = s.pos ∧
      (s.acceptEdge c e).meas = s.meas ∧ (s.acceptEdge c e).host = s.host ∧
      (s.acceptEdge c e).resetHeld = s.resetHeld ∧ (s.acceptEdge c e).choices = s.choices ∧
      (s.acceptEdge c e).pending = s.pending := by
  unfold State.acceptEdge; (repeat' split) <;> simp

@[simp] theorem State.fireEdge_frame (c : Fin 8) (e : Option Edge) :
    (s.fireEdge c e).time = s.time ∧ (s.fireEdge c e).station = s.station ∧
      (s.fireEdge c e).sched = s.sched ∧ (s.fireEdge c e).chans = s.chans ∧
      (s.fireEdge c e).pos = s.pos ∧ (s.fireEdge c e).meas = s.meas ∧
      (s.fireEdge c e).resetHeld = s.resetHeld ∧ (s.fireEdge c e).choices = s.choices ∧
      (s.fireEdge c e).pending = s.pending := by
  unfold State.fireEdge; (repeat' split) <;> simp

@[simp] theorem State.takeHandOver_frame (h : HandOver) :
    (s.takeHandOver h).time = s.time ∧ (s.takeHandOver h).station = s.station ∧
      (s.takeHandOver h).sched = s.sched ∧ (s.takeHandOver h).chans = s.chans ∧
      (s.takeHandOver h).meas = s.meas ∧ (s.takeHandOver h).resetHeld = s.resetHeld ∧
      (s.takeHandOver h).choices = s.choices ∧ (s.takeHandOver h).pending = s.pending := by
  simp only [State.takeHandOver]; split <;> simp

@[simp] theorem State.handEdges_frame (e0 e1 : Option Edge) :
    (s.handEdges e0 e1).time = s.time ∧ (s.handEdges e0 e1).station = s.station ∧
      (s.handEdges e0 e1).sched = s.sched ∧ (s.handEdges e0 e1).chans = s.chans ∧
      (s.handEdges e0 e1).meas = s.meas ∧ (s.handEdges e0 e1).resetHeld = s.resetHeld ∧
      (s.handEdges e0 e1).choices = s.choices ∧ (s.handEdges e0 e1).pending = s.pending := by
  simp only [State.handEdges]; split <;> simp

@[simp] theorem State.countPair_frame (f : Bool) :
    (s.countPair f).time = s.time ∧ (s.countPair f).station = s.station ∧
      (s.countPair f).sched = s.sched ∧ (s.countPair f).meas = s.meas ∧
      (s.countPair f).resetHeld = s.resetHeld ∧ (s.countPair f).choices = s.choices ∧
      (s.countPair f).pending = s.pending := by
  simp only [State.countPair]; split <;> simp

@[simp] theorem State.countEdge_frame (c : Fin 8) :
    (s.countEdge c).time = s.time ∧ (s.countEdge c).station = s.station ∧
      (s.countEdge c).sched = s.sched ∧ (s.countEdge c).meas = s.meas ∧
      (s.countEdge c).resetHeld = s.resetHeld ∧ (s.countEdge c).choices = s.choices ∧
      (s.countEdge c).pending = s.pending := by
  simp only [State.countEdge]; (repeat' split) <;> simp

@[simp] theorem State.countedBefore_frame (c : Fin 8) :
    (s.countedBefore c).time = s.time ∧ (s.countedBefore c).station = s.station ∧
      (s.countedBefore c).sched = s.sched ∧ (s.countedBefore c).meas = s.meas ∧
      (s.countedBefore c).resetHeld = s.resetHeld ∧ (s.countedBefore c).choices = s.choices ∧
      (s.countedBefore c).pending = s.pending := by
  unfold State.countedBefore; (repeat' split) <;> simp

@[simp] theorem State.pinTransition_frame (c : Fin 8) (l : Level) :
    (s.pinTransition c l).time = s.time ∧ (s.pinTransition c l).station = s.station ∧
      (s.pinTransition c l).sched = s.sched ∧ (s.pinTransition c l).meas = s.meas ∧
      (s.pinTransition c l).resetHeld = s.resetHeld ∧ (s.pinTransition c l).choices = s.choices ∧
      (s.pinTransition c l).pending = s.pending := by
  simp [State.pinTransition]

/-! ### The schedule -/

@[simp] theorem State.applyPhase_frame (e : SchedEntry) :
    (s.applyPhase e).line = s.line ∧ (s.applyPhase e).time = s.time ∧
      (s.applyPhase e).station = s.station ∧ (s.applyPhase e).disp = s.disp ∧
      (s.applyPhase e).sched = s.sched ∧ (s.applyPhase e).pos = s.pos ∧
      (s.applyPhase e).meas = s.meas ∧ (s.applyPhase e).host = s.host ∧
      (s.applyPhase e).resetHeld = s.resetHeld ∧ (s.applyPhase e).choices = s.choices ∧
      (s.applyPhase e).pending = s.pending := by
  simp [State.applyPhase]

@[simp] theorem State.stampEntry_frame (e : SchedEntry) :
    (s.stampEntry e).line = s.line ∧ (s.stampEntry e).time = s.time ∧
      (s.stampEntry e).station = s.station ∧ (s.stampEntry e).disp = s.disp ∧
      (s.stampEntry e).chans = s.chans ∧ (s.stampEntry e).pos = s.pos ∧
      (s.stampEntry e).meas = s.meas ∧ (s.stampEntry e).host = s.host ∧
      (s.stampEntry e).resetHeld = s.resetHeld ∧ (s.stampEntry e).choices = s.choices ∧
      (s.stampEntry e).pending = s.pending := by
  simp [State.stampEntry]

@[simp] theorem State.endEvent_frame (e : SchedEntry) :
    (s.endEvent e).time = s.time ∧ (s.endEvent e).station = s.station ∧
      (s.endEvent e).sched = s.sched ∧ (s.endEvent e).chans = s.chans ∧
      (s.endEvent e).pos = s.pos ∧ (s.endEvent e).meas = s.meas ∧
      (s.endEvent e).resetHeld = s.resetHeld ∧ (s.endEvent e).choices = s.choices ∧
      (s.endEvent e).pending = s.pending := by
  unfold State.endEvent; (repeat' split) <;> simp

@[simp] theorem State.repetition_frame (e : SchedEntry) :
    (s.repetition e).time = s.time ∧ (s.repetition e).station = s.station ∧
      (s.repetition e).chans = s.chans ∧ (s.repetition e).pos = s.pos ∧
      (s.repetition e).meas = s.meas ∧ (s.repetition e).resetHeld = s.resetHeld ∧
      (s.repetition e).choices = s.choices ∧ (s.repetition e).pending = s.pending := by
  unfold State.repetition; (repeat' split) <;> simp

@[simp] theorem State.afterExpiry_frame (e : SchedEntry) :
    (s.afterExpiry e).time = s.time ∧ (s.afterExpiry e).station = s.station ∧
      (s.afterExpiry e).chans = s.chans ∧ (s.afterExpiry e).pos = s.pos ∧
      (s.afterExpiry e).meas = s.meas ∧ (s.afterExpiry e).resetHeld = s.resetHeld ∧
      (s.afterExpiry e).choices = s.choices ∧ (s.afterExpiry e).pending = s.pending := by
  unfold State.afterExpiry; (repeat' split) <;> simp

@[simp] theorem State.expireEntry_frame (e : SchedEntry) :
    (s.expireEntry e).time = s.time ∧ (s.expireEntry e).station = s.station ∧
      (s.expireEntry e).pos = s.pos ∧ (s.expireEntry e).meas = s.meas ∧
      (s.expireEntry e).resetHeld = s.resetHeld ∧ (s.expireEntry e).choices = s.choices ∧
      (s.expireEntry e).pending = s.pending := by
  simp [State.expireEntry]

@[simp] theorem State.scheduleExpiry_frame :
    (s.scheduleExpiry).time = s.time ∧ (s.scheduleExpiry).station = s.station ∧
      (s.scheduleExpiry).pos = s.pos ∧ (s.scheduleExpiry).meas = s.meas ∧
      (s.scheduleExpiry).resetHeld = s.resetHeld ∧ (s.scheduleExpiry).choices = s.choices ∧
      (s.scheduleExpiry).pending = s.pending := by
  unfold State.scheduleExpiry; (repeat' split) <;> simp

@[simp] theorem State.insertLate_frame (p : DriveParams) (c : Cause) :
    (s.insertLate p c).time = s.time ∧ (s.insertLate p c).station = s.station ∧
      (s.insertLate p c).pos = s.pos ∧ (s.insertLate p c).meas = s.meas ∧
      (s.insertLate p c).resetHeld = s.resetHeld ∧ (s.insertLate p c).choices = s.choices ∧
      (s.insertLate p c).pending = s.pending := by
  simp [State.insertLate]

@[simp] theorem State.drive_frame (p : DriveParams) (c : Cause) :
    (s.drive p c).time = s.time ∧ (s.drive p c).station = s.station ∧ (s.drive p c).pos = s.pos ∧
      (s.drive p c).meas = s.meas ∧ (s.drive p c).resetHeld = s.resetHeld ∧
      (s.drive p c).choices = s.choices ∧ (s.drive p c).pending = s.pending := by
  unfold State.drive; (repeat' split) <;> simp

@[simp] theorem State.cancelOne_frame (e : SchedEntry) :
    (s.cancelOne e).line = s.line ∧ (s.cancelOne e).time = s.time ∧
      (s.cancelOne e).station = s.station ∧ (s.cancelOne e).disp = s.disp ∧
      (s.cancelOne e).sched = s.sched ∧ (s.cancelOne e).pos = s.pos ∧
      (s.cancelOne e).meas = s.meas ∧ (s.cancelOne e).resetHeld = s.resetHeld ∧
      (s.cancelOne e).choices = s.choices ∧ (s.cancelOne e).pending = s.pending := by
  unfold State.cancelOne; (repeat' split) <;> simp

/-- `State.cancelAll` changes channels and reports alone. -/
@[simp] theorem State.cancelAll_frame (tag : BitVec 4) (l : List SchedEntry) :
    (State.cancelAll tag l s).line = s.line ∧ (State.cancelAll tag l s).time = s.time ∧
      (State.cancelAll tag l s).station = s.station ∧ (State.cancelAll tag l s).disp = s.disp ∧
      (State.cancelAll tag l s).sched = s.sched ∧ (State.cancelAll tag l s).pos = s.pos ∧
      (State.cancelAll tag l s).meas = s.meas ∧
      (State.cancelAll tag l s).resetHeld = s.resetHeld ∧
      (State.cancelAll tag l s).choices = s.choices ∧
      (State.cancelAll tag l s).pending = s.pending := by
  induction l generalizing s with
  | nil => simp [State.cancelAll]
  | cons e l ih =>
    have h := ih (if e.tag = tag then s.cancelOne e else s)
    simp only [State.cancelAll]
    split at h <;> simp_all

@[simp] theorem State.removeTagged_frame (g : BitVec 4) :
    (s.removeTagged g).line = s.line ∧ (s.removeTagged g).time = s.time ∧
      (s.removeTagged g).station = s.station ∧ (s.removeTagged g).disp = s.disp ∧
      (s.removeTagged g).pos = s.pos ∧ (s.removeTagged g).meas = s.meas ∧
      (s.removeTagged g).resetHeld = s.resetHeld ∧ (s.removeTagged g).choices = s.choices ∧
      (s.removeTagged g).pending = s.pending := by
  simp [State.removeTagged]

@[simp] theorem State.putBack_frame (l : List SchedEntry) :
    (s.putBack l).line = s.line ∧ (s.putBack l).time = s.time ∧
      (s.putBack l).station = s.station ∧ (s.putBack l).disp = s.disp ∧
      (s.putBack l).chans = s.chans ∧ (s.putBack l).pos = s.pos ∧ (s.putBack l).meas = s.meas ∧
      (s.putBack l).host = s.host ∧ (s.putBack l).resetHeld = s.resetHeld ∧
      (s.putBack l).choices = s.choices ∧ (s.putBack l).pending = s.pending := by
  simp [State.putBack]

/-- What expires before a CANCEL changes schedule, channels, and where an end event goes. -/
@[simp] theorem State.expireBefore_frame (tag : BitVec 4) (n : Nat) (l : List SchedEntry) :
    (State.expireBefore tag n l s).time = s.time ∧
      (State.expireBefore tag n l s).station = s.station ∧
      (State.expireBefore tag n l s).pos = s.pos ∧ (State.expireBefore tag n l s).meas = s.meas ∧
      (State.expireBefore tag n l s).resetHeld = s.resetHeld ∧
      (State.expireBefore tag n l s).pending = s.pending := by
  induction n generalizing s l with
  | zero => simp [State.expireBefore]
  | succ n ih =>
    simp only [State.expireBefore]
    (repeat' split) <;> simp [ih]

@[simp] theorem State.cancel_frame (g : BitVec 4) :
    (s.cancel g).time = s.time ∧ (s.cancel g).station = s.station ∧ (s.cancel g).pos = s.pos ∧
      (s.cancel g).meas = s.meas ∧ (s.cancel g).resetHeld = s.resetHeld ∧
      (s.cancel g).pending = s.pending := by
  simp only [State.cancel]; split <;> simp

@[simp] theorem State.flushSchedule_frame :
    (s.flushSchedule).line = s.line ∧ (s.flushSchedule).time = s.time ∧
      (s.flushSchedule).station = s.station ∧ (s.flushSchedule).disp = s.disp ∧
      (s.flushSchedule).pos = s.pos ∧ (s.flushSchedule).meas = s.meas ∧
      (s.flushSchedule).resetHeld = s.resetHeld ∧ (s.flushSchedule).choices = s.choices ∧
      (s.flushSchedule).pending = s.pending := by
  simp [State.flushSchedule]

/-! ### Position unit and encoder reader -/

@[simp] theorem State.presetPos_frame (v : Value32) :
    (s.presetPos v).line = s.line ∧ (s.presetPos v).time = s.time ∧
      (s.presetPos v).station = s.station ∧ (s.presetPos v).disp = s.disp ∧
      (s.presetPos v).sched = s.sched ∧ (s.presetPos v).chans = s.chans ∧
      (s.presetPos v).meas = s.meas ∧ (s.presetPos v).host = s.host ∧
      (s.presetPos v).resetHeld = s.resetHeld ∧ (s.presetPos v).choices = s.choices ∧
      (s.presetPos v).pending = s.pending := by
  simp [State.presetPos]

@[simp] theorem State.captureRequest_frame (c : Cause) :
    (s.captureRequest c).line = s.line ∧ (s.captureRequest c).time = s.time ∧
      (s.captureRequest c).station = s.station ∧ (s.captureRequest c).disp = s.disp ∧
      (s.captureRequest c).sched = s.sched ∧ (s.captureRequest c).chans = s.chans ∧
      (s.captureRequest c).meas = s.meas ∧ (s.captureRequest c).resetHeld = s.resetHeld ∧
      (s.captureRequest c).choices = s.choices ∧ (s.captureRequest c).pending = s.pending := by
  unfold State.captureRequest; (repeat' split) <;> simp

@[simp] theorem State.readComplete_frame (r : ReadRecord) (l : List Level) :
    (s.readComplete r l).time = s.time ∧ (s.readComplete r l).station = s.station ∧
      (s.readComplete r l).sched = s.sched ∧ (s.readComplete r l).chans = s.chans ∧
      (s.readComplete r l).meas = s.meas ∧ (s.readComplete r l).resetHeld = s.resetHeld ∧
      (s.readComplete r l).choices = s.choices ∧ (s.readComplete r l).pending = s.pending := by
  simp only [State.readComplete]; split <;> simp

@[simp] theorem State.endShifting_frame :
    (s.endShifting).time = s.time ∧ (s.endShifting).station = s.station ∧
      (s.endShifting).sched = s.sched ∧ (s.endShifting).chans = s.chans ∧
      (s.endShifting).meas = s.meas ∧ (s.endShifting).resetHeld = s.resetHeld ∧
      (s.endShifting).choices = s.choices ∧ (s.endShifting).pending = s.pending := by
  unfold State.endShifting; (repeat' split) <;> simp

@[simp] theorem State.recoveryExpiry_frame :
    (s.recoveryExpiry).time = s.time ∧ (s.recoveryExpiry).station = s.station ∧
      (s.recoveryExpiry).sched = s.sched ∧ (s.recoveryExpiry).chans = s.chans ∧
      (s.recoveryExpiry).meas = s.meas ∧ (s.recoveryExpiry).resetHeld = s.resetHeld ∧
      (s.recoveryExpiry).choices = s.choices ∧ (s.recoveryExpiry).pending = s.pending := by
  simp only [State.recoveryExpiry]; split <;> simp

/-! ### Comparators, latches, measurements -/

@[simp] theorem State.writeLatch_frame (i : Fin 8) (v : Value32) (t : LineTime) (p : PosSource) :
    (s.writeLatch i v t p).line = s.line ∧ (s.writeLatch i v t p).time = s.time ∧
      (s.writeLatch i v t p).station = s.station ∧ (s.writeLatch i v t p).disp = s.disp ∧
      (s.writeLatch i v t p).sched = s.sched ∧ (s.writeLatch i v t p).chans = s.chans ∧
      (s.writeLatch i v t p).pos = s.pos ∧ (s.writeLatch i v t p).host = s.host ∧
      (s.writeLatch i v t p).resetHeld = s.resetHeld ∧
      (s.writeLatch i v t p).choices = s.choices ∧
      (s.writeLatch i v t p).pending = s.pending := by
  simp [State.writeLatch]

@[simp] theorem State.latchRequest_frame (c : Cause) (v : Value32) (t : LineTime) (p : PosSource) (i : Fin 8) (d : Option EventDesc) :
    (s.latchRequest c v t p i d).time = s.time ∧
      (s.latchRequest c v t p i d).station = s.station ∧
      (s.latchRequest c v t p i d).sched = s.sched ∧
      (s.latchRequest c v t p i d).chans = s.chans ∧ (s.latchRequest c v t p i d).pos = s.pos ∧
      (s.latchRequest c v t p i d).resetHeld = s.resetHeld ∧
      (s.latchRequest c v t p i d).choices = s.choices ∧
      (s.latchRequest c v t p i d).pending = s.pending := by
  simp only [State.latchRequest]; split <;> simp

@[simp] theorem State.recordOutcome_frame (k : Fin 2) (b : Bool) :
    (s.recordOutcome k b).line = s.line ∧ (s.recordOutcome k b).time = s.time ∧
      (s.recordOutcome k b).station = s.station ∧ (s.recordOutcome k b).disp = s.disp ∧
      (s.recordOutcome k b).sched = s.sched ∧ (s.recordOutcome k b).chans = s.chans ∧
      (s.recordOutcome k b).pos = s.pos ∧ (s.recordOutcome k b).host = s.host ∧
      (s.recordOutcome k b).resetHeld = s.resetHeld ∧ (s.recordOutcome k b).choices = s.choices ∧
      (s.recordOutcome k b).pending = s.pending := by
  simp [State.recordOutcome]

@[simp] theorem State.forwardLatch_frame (i : Option (Fin 8)) (v : Value32) (t : LineTime) (p : PosSource) :
    (s.forwardLatch i v t p).line = s.line ∧ (s.forwardLatch i v t p).time = s.time ∧
      (s.forwardLatch i v t p).station = s.station ∧ (s.forwardLatch i v t p).disp = s.disp ∧
      (s.forwardLatch i v t p).sched = s.sched ∧ (s.forwardLatch i v t p).chans = s.chans ∧
      (s.forwardLatch i v t p).pos = s.pos ∧ (s.forwardLatch i v t p).host = s.host ∧
      (s.forwardLatch i v t p).resetHeld = s.resetHeld ∧
      (s.forwardLatch i v t p).choices = s.choices ∧
      (s.forwardLatch i v t p).pending = s.pending := by
  unfold State.forwardLatch; (repeat' split) <;> simp

@[simp] theorem State.forwardBranch_frame (k : Fin 2) (c : Cause) (v : Value32) (t : LineTime) (b : Bool) :
    (s.forwardBranch k c v t b).time = s.time ∧ (s.forwardBranch k c v t b).station = s.station ∧
      (s.forwardBranch k c v t b).sched = s.sched ∧ (s.forwardBranch k c v t b).chans = s.chans ∧
      (s.forwardBranch k c v t b).pos = s.pos ∧
      (s.forwardBranch k c v t b).resetHeld = s.resetHeld ∧
      (s.forwardBranch k c v t b).choices = s.choices ∧
      (s.forwardBranch k c v t b).pending = s.pending := by
  simp [State.forwardBranch]

@[simp] theorem State.compareRequest_frame (c : Cause) (v : Value32) (t : LineTime) (k : Fin 2) :
    (s.compareRequest c v t k).time = s.time ∧ (s.compareRequest c v t k).station = s.station ∧
      (s.compareRequest c v t k).sched = s.sched ∧ (s.compareRequest c v t k).chans = s.chans ∧
      (s.compareRequest c v t k).pos = s.pos ∧
      (s.compareRequest c v t k).resetHeld = s.resetHeld ∧
      (s.compareRequest c v t k).choices = s.choices ∧
      (s.compareRequest c v t k).pending = s.pending := by
  simp only [State.compareRequest]; (repeat' split) <;> simp

@[simp] theorem State.clearCmp_frame (k : Fin 2) :
    (s.clearCmp k).line = s.line ∧ (s.clearCmp k).time = s.time ∧
      (s.clearCmp k).station = s.station ∧ (s.clearCmp k).disp = s.disp ∧
      (s.clearCmp k).sched = s.sched ∧ (s.clearCmp k).chans = s.chans ∧
      (s.clearCmp k).pos = s.pos ∧ (s.clearCmp k).host = s.host ∧
      (s.clearCmp k).resetHeld = s.resetHeld ∧ (s.clearCmp k).choices = s.choices ∧
      (s.clearCmp k).pending = s.pending := by
  simp [State.clearCmp]

@[simp] theorem State.clearCmps_frame :
    (s.clearCmps).line = s.line ∧ (s.clearCmps).time = s.time ∧
      (s.clearCmps).station = s.station ∧ (s.clearCmps).disp = s.disp ∧
      (s.clearCmps).sched = s.sched ∧ (s.clearCmps).chans = s.chans ∧ (s.clearCmps).pos = s.pos ∧
      (s.clearCmps).host = s.host ∧ (s.clearCmps).resetHeld = s.resetHeld ∧
      (s.clearCmps).choices = s.choices ∧ (s.clearCmps).pending = s.pending := by
  simp [State.clearCmps]

@[simp] theorem State.measureRequest_frame (c : Cause) (e : Option Edge) (j : Fin 8) :
    (s.measureRequest c e j).line = s.line ∧ (s.measureRequest c e j).time = s.time ∧
      (s.measureRequest c e j).station = s.station ∧ (s.measureRequest c e j).disp = s.disp ∧
      (s.measureRequest c e j).sched = s.sched ∧ (s.measureRequest c e j).chans = s.chans ∧
      (s.measureRequest c e j).pos = s.pos ∧ (s.measureRequest c e j).host = s.host ∧
      (s.measureRequest c e j).resetHeld = s.resetHeld ∧
      (s.measureRequest c e j).choices = s.choices ∧
      (s.measureRequest c e j).pending = s.pending := by
  simp [State.measureRequest]

/-! ### The dispatcher -/

@[simp] theorem State.takeRequest_frame (r : Request) :
    (s.takeRequest r).time = s.time ∧ (s.takeRequest r).station = s.station ∧
      (s.takeRequest r).resetHeld = s.resetHeld ∧ (s.takeRequest r).pending = s.pending := by
  simp only [State.takeRequest]; split <;> simp

@[simp] theorem State.request_frame (a : Action) (c : Cause) :
    (s.request a c).time = s.time ∧ (s.request a c).station = s.station ∧
      (s.request a c).resetHeld = s.resetHeld ∧ (s.request a c).pending = s.pending := by
  simp [State.request]

@[simp] theorem State.takeUnderWay_frame :
    (s.takeUnderWay).time = s.time ∧ (s.takeUnderWay).station = s.station ∧
      (s.takeUnderWay).resetHeld = s.resetHeld ∧ (s.takeUnderWay).pending = s.pending := by
  unfold State.takeUnderWay; (repeat' split) <;> simp

@[simp] theorem State.leaveUnderWay_frame (r : Request) :
    (s.leaveUnderWay r).line = s.line ∧ (s.leaveUnderWay r).time = s.time ∧
      (s.leaveUnderWay r).station = s.station ∧ (s.leaveUnderWay r).sched = s.sched ∧
      (s.leaveUnderWay r).chans = s.chans ∧ (s.leaveUnderWay r).pos = s.pos ∧
      (s.leaveUnderWay r).meas = s.meas ∧ (s.leaveUnderWay r).host = s.host ∧
      (s.leaveUnderWay r).resetHeld = s.resetHeld ∧ (s.leaveUnderWay r).choices = s.choices ∧
      (s.leaveUnderWay r).pending = s.pending := by
  simp [State.leaveUnderWay]

@[simp] theorem State.passOn_frame (r : Request) :
    (s.passOn r).time = s.time ∧ (s.passOn r).station = s.station ∧
      (s.passOn r).resetHeld = s.resetHeld ∧ (s.passOn r).pending = s.pending := by
  unfold State.passOn; (repeat' split) <;> simp

@[simp] theorem State.disarmOnce_frame (i : Fin 64) :
    (s.disarmOnce i).line = s.line ∧ (s.disarmOnce i).time = s.time ∧
      (s.disarmOnce i).station = s.station ∧ (s.disarmOnce i).sched = s.sched ∧
      (s.disarmOnce i).chans = s.chans ∧ (s.disarmOnce i).pos = s.pos ∧
      (s.disarmOnce i).meas = s.meas ∧ (s.disarmOnce i).host = s.host ∧
      (s.disarmOnce i).resetHeld = s.resetHeld ∧ (s.disarmOnce i).choices = s.choices ∧
      (s.disarmOnce i).pending = s.pending := by
  unfold State.disarmOnce; (repeat' split) <;> simp

@[simp] theorem State.examine_frame (i : Fin 64) (o : Occurrence) :
    (s.examine i o).time = s.time ∧ (s.examine i o).station = s.station ∧
      (s.examine i o).resetHeld = s.resetHeld ∧ (s.examine i o).pending = s.pending := by
  simp only [State.examine]; split <;> simp

@[simp] theorem State.advanceScan_frame :
    (s.advanceScan).line = s.line ∧ (s.advanceScan).time = s.time ∧
      (s.advanceScan).station = s.station ∧ (s.advanceScan).sched = s.sched ∧
      (s.advanceScan).chans = s.chans ∧ (s.advanceScan).pos = s.pos ∧
      (s.advanceScan).meas = s.meas ∧ (s.advanceScan).host = s.host ∧
      (s.advanceScan).resetHeld = s.resetHeld ∧ (s.advanceScan).choices = s.choices ∧
      (s.advanceScan).pending = s.pending := by
  simp [State.advanceScan]

@[simp] theorem State.dispatchStart_frame :
    (s.dispatchStart).line = s.line ∧ (s.dispatchStart).time = s.time ∧
      (s.dispatchStart).station = s.station ∧ (s.dispatchStart).sched = s.sched ∧
      (s.dispatchStart).chans = s.chans ∧ (s.dispatchStart).pos = s.pos ∧
      (s.dispatchStart).meas = s.meas ∧ (s.dispatchStart).host = s.host ∧
      (s.dispatchStart).resetHeld = s.resetHeld ∧ (s.dispatchStart).choices = s.choices ∧
      (s.dispatchStart).pending = s.pending := by
  unfold State.dispatchStart; (repeat' split) <;> simp

@[simp] theorem State.entryExamined_frame :
    (s.entryExamined).time = s.time ∧ (s.entryExamined).station = s.station ∧
      (s.entryExamined).resetHeld = s.resetHeld ∧ (s.entryExamined).pending = s.pending := by
  unfold State.entryExamined; (repeat' split) <;> simp

@[simp] theorem State.endDispatch_frame :
    (s.endDispatch).line = s.line ∧ (s.endDispatch).time = s.time ∧
      (s.endDispatch).station = s.station ∧ (s.endDispatch).sched = s.sched ∧
      (s.endDispatch).chans = s.chans ∧ (s.endDispatch).pos = s.pos ∧
      (s.endDispatch).meas = s.meas ∧ (s.endDispatch).host = s.host ∧
      (s.endDispatch).resetHeld = s.resetHeld ∧ (s.endDispatch).choices = s.choices ∧
      (s.endDispatch).pending = s.pending := by
  simp [State.endDispatch]

@[simp] theorem State.closeDispatch_frame :
    (s.closeDispatch).line = s.line ∧ (s.closeDispatch).time = s.time ∧
      (s.closeDispatch).station = s.station ∧ (s.closeDispatch).sched = s.sched ∧
      (s.closeDispatch).chans = s.chans ∧ (s.closeDispatch).pos = s.pos ∧
      (s.closeDispatch).meas = s.meas ∧ (s.closeDispatch).host = s.host ∧
      (s.closeDispatch).resetHeld = s.resetHeld ∧ (s.closeDispatch).choices = s.choices ∧
      (s.closeDispatch).pending = s.pending := by
  simp [State.closeDispatch]

@[simp] theorem State.armAll_frame :
    (s.armAll).line = s.line ∧ (s.armAll).time = s.time ∧ (s.armAll).station = s.station ∧
      (s.armAll).sched = s.sched ∧ (s.armAll).chans = s.chans ∧ (s.armAll).pos = s.pos ∧
      (s.armAll).meas = s.meas ∧ (s.armAll).host = s.host ∧ (s.armAll).resetHeld = s.resetHeld ∧
      (s.armAll).choices = s.choices ∧ (s.armAll).pending = s.pending := by
  simp [State.armAll]

@[simp] theorem State.armOne_frame (i : Fin 64) :
    (s.armOne i).line = s.line ∧ (s.armOne i).time = s.time ∧ (s.armOne i).station = s.station ∧
      (s.armOne i).sched = s.sched ∧ (s.armOne i).chans = s.chans ∧ (s.armOne i).pos = s.pos ∧
      (s.armOne i).meas = s.meas ∧ (s.armOne i).host = s.host ∧
      (s.armOne i).resetHeld = s.resetHeld ∧ (s.armOne i).choices = s.choices ∧
      (s.armOne i).pending = s.pending := by
  simp [State.armOne]

/-! ### Line time -/

@[simp] theorem State.setPeers_frame (l : List PeerRecord) :
    (s.setPeers l).line = s.line ∧ (s.setPeers l).station = s.station ∧
      (s.setPeers l).disp = s.disp ∧ (s.setPeers l).sched = s.sched ∧
      (s.setPeers l).chans = s.chans ∧ (s.setPeers l).pos = s.pos ∧
      (s.setPeers l).meas = s.meas ∧ (s.setPeers l).host = s.host ∧
      (s.setPeers l).resetHeld = s.resetHeld ∧ (s.setPeers l).choices = s.choices ∧
      (s.setPeers l).pending = s.pending := by
  simp [State.setPeers]

@[simp] theorem State.createPeer_frame (n : StationNo) (q : Byte) (y : Bool) (t : LineTime) :
    (s.createPeer n q y t).line = s.line ∧ (s.createPeer n q y t).station = s.station ∧
      (s.createPeer n q y t).disp = s.disp ∧ (s.createPeer n q y t).sched = s.sched ∧
      (s.createPeer n q y t).chans = s.chans ∧ (s.createPeer n q y t).pos = s.pos ∧
      (s.createPeer n q y t).meas = s.meas ∧ (s.createPeer n q y t).resetHeld = s.resetHeld ∧
      (s.createPeer n q y t).choices = s.choices ∧
      (s.createPeer n q y t).pending = s.pending := by
  simp [State.createPeer]

@[simp] theorem State.replacePeer_frame (n : StationNo) (q : Byte) (y : Bool) (t : LineTime) :
    (s.replacePeer n q y t).line = s.line ∧ (s.replacePeer n q y t).station = s.station ∧
      (s.replacePeer n q y t).disp = s.disp ∧ (s.replacePeer n q y t).sched = s.sched ∧
      (s.replacePeer n q y t).chans = s.chans ∧ (s.replacePeer n q y t).pos = s.pos ∧
      (s.replacePeer n q y t).meas = s.meas ∧ (s.replacePeer n q y t).resetHeld = s.resetHeld ∧
      (s.replacePeer n q y t).choices = s.choices ∧
      (s.replacePeer n q y t).pending = s.pending := by
  unfold State.replacePeer; (repeat' split) <;> simp

@[simp] theorem State.takeSync_frame (n : StationNo) (q : Byte) (y : Bool) (t : LineTime) (p : Option LineTime) :
    (s.takeSync n q y t p).line = s.line ∧ (s.takeSync n q y t p).station = s.station ∧
      (s.takeSync n q y t p).disp = s.disp ∧ (s.takeSync n q y t p).sched = s.sched ∧
      (s.takeSync n q y t p).chans = s.chans ∧ (s.takeSync n q y t p).pos = s.pos ∧
      (s.takeSync n q y t p).meas = s.meas ∧ (s.takeSync n q y t p).resetHeld = s.resetHeld ∧
      (s.takeSync n q y t p).choices = s.choices ∧
      (s.takeSync n q y t p).pending = s.pending := by
  unfold State.takeSync; (repeat' split) <;> simp

@[simp] theorem State.takeLeave_frame (n : StationNo) :
    (s.takeLeave n).line = s.line ∧ (s.takeLeave n).station = s.station ∧
      (s.takeLeave n).disp = s.disp ∧ (s.takeLeave n).sched = s.sched ∧
      (s.takeLeave n).chans = s.chans ∧ (s.takeLeave n).pos = s.pos ∧
      (s.takeLeave n).meas = s.meas ∧ (s.takeLeave n).resetHeld = s.resetHeld ∧
      (s.takeLeave n).choices = s.choices ∧ (s.takeLeave n).pending = s.pending := by
  unfold State.takeLeave; (repeat' split) <;> simp

@[simp] theorem State.placeSync_frame :
    (s.placeSync).time = s.time ∧ (s.placeSync).station = s.station ∧
      (s.placeSync).disp = s.disp ∧ (s.placeSync).sched = s.sched ∧
      (s.placeSync).chans = s.chans ∧ (s.placeSync).pos = s.pos ∧ (s.placeSync).meas = s.meas ∧
      (s.placeSync).host = s.host ∧ (s.placeSync).resetHeld = s.resetHeld ∧
      (s.placeSync).choices = s.choices ∧ (s.placeSync).pending = s.pending := by
  unfold State.placeSync; (repeat' split) <;> simp

@[simp] theorem State.clearErrors_frame :
    (s.clearErrors).time = s.time ∧ (s.clearErrors).station = s.station ∧
      (s.clearErrors).disp = s.disp ∧ (s.clearErrors).sched = s.sched ∧
      (s.clearErrors).chans = s.chans ∧ (s.clearErrors).pos = s.pos ∧
      (s.clearErrors).meas = s.meas ∧ (s.clearErrors).host = s.host ∧
      (s.clearErrors).resetHeld = s.resetHeld ∧ (s.clearErrors).choices = s.choices ∧
      (s.clearErrors).pending = s.pending := by
  simp [State.clearErrors]

@[simp] theorem State.syncRound_frame :
    (s.syncRound).disp = s.disp ∧ (s.syncRound).sched = s.sched ∧ (s.syncRound).chans = s.chans ∧
      (s.syncRound).pos = s.pos ∧ (s.syncRound).meas = s.meas ∧
      (s.syncRound).resetHeld = s.resetHeld ∧ (s.syncRound).pending = s.pending := by
  simp [State.syncRound]

/-! ### The station controller -/

@[simp] theorem State.record_frame (q : Byte) (o : CmdOutcome) (d : Byte) :
    (s.record q o d).line = s.line ∧ (s.record q o d).time = s.time ∧
      (s.record q o d).station = s.station ∧ (s.record q o d).disp = s.disp ∧
      (s.record q o d).sched = s.sched ∧ (s.record q o d).chans = s.chans ∧
      (s.record q o d).pos = s.pos ∧ (s.record q o d).meas = s.meas ∧
      (s.record q o d).resetHeld = s.resetHeld ∧ (s.record q o d).choices = s.choices ∧
      (s.record q o d).pending = s.pending := by
  simp [State.record]

@[simp] theorem State.taken_frame (q : Byte) :
    (s.taken q).line = s.line ∧ (s.taken q).time = s.time ∧ (s.taken q).station = s.station ∧
      (s.taken q).disp = s.disp ∧ (s.taken q).sched = s.sched ∧ (s.taken q).chans = s.chans ∧
      (s.taken q).pos = s.pos ∧ (s.taken q).meas = s.meas ∧ (s.taken q).resetHeld = s.resetHeld ∧
      (s.taken q).choices = s.choices ∧ (s.taken q).pending = s.pending := by
  simp [State.taken]

@[simp] theorem State.refuse_frame (q : Byte) :
    (s.refuse q).line = s.line ∧ (s.refuse q).time = s.time ∧ (s.refuse q).station = s.station ∧
      (s.refuse q).disp = s.disp ∧ (s.refuse q).sched = s.sched ∧ (s.refuse q).chans = s.chans ∧
      (s.refuse q).pos = s.pos ∧ (s.refuse q).meas = s.meas ∧
      (s.refuse q).resetHeld = s.resetHeld ∧ (s.refuse q).choices = s.choices ∧
      (s.refuse q).pending = s.pending := by
  simp [State.refuse]

@[simp] theorem State.checkFailed_frame (q : Byte) (e : ConfigError) :
    (s.checkFailed q e).line = s.line ∧ (s.checkFailed q e).time = s.time ∧
      (s.checkFailed q e).station = s.station ∧ (s.checkFailed q e).disp = s.disp ∧
      (s.checkFailed q e).sched = s.sched ∧ (s.checkFailed q e).chans = s.chans ∧
      (s.checkFailed q e).pos = s.pos ∧ (s.checkFailed q e).meas = s.meas ∧
      (s.checkFailed q e).resetHeld = s.resetHeld ∧ (s.checkFailed q e).choices = s.choices ∧
      (s.checkFailed q e).pending = s.pending := by
  simp [State.checkFailed]

@[simp] theorem State.clearError_frame :
    (s.clearError).line = s.line ∧ (s.clearError).time = s.time ∧
      (s.clearError).station = s.station ∧ (s.clearError).disp = s.disp ∧
      (s.clearError).sched = s.sched ∧ (s.clearError).chans = s.chans ∧
      (s.clearError).pos = s.pos ∧ (s.clearError).meas = s.meas ∧
      (s.clearError).resetHeld = s.resetHeld ∧ (s.clearError).choices = s.choices ∧
      (s.clearError).pending = s.pending := by
  simp [State.clearError]

@[simp] theorem State.joinTaken_frame :
    (s.joinTaken).sched = s.sched ∧ (s.joinTaken).chans = s.chans ∧ (s.joinTaken).pos = s.pos ∧
      (s.joinTaken).meas = s.meas ∧ (s.joinTaken).resetHeld = s.resetHeld ∧
      (s.joinTaken).choices = s.choices ∧ (s.joinTaken).pending = s.pending := by
  simp [State.joinTaken]

@[simp] theorem State.join_frame :
    (s.join).sched = s.sched ∧ (s.join).chans = s.chans ∧ (s.join).pos = s.pos ∧
      (s.join).meas = s.meas ∧ (s.join).resetHeld = s.resetHeld ∧ (s.join).choices = s.choices ∧
      (s.join).pending = s.pending := by
  unfold State.join; (repeat' split) <;> simp

@[simp] theorem State.closePeriod_frame :
    (s.closePeriod).time = s.time ∧ (s.closePeriod).station = s.station ∧
      (s.closePeriod).disp = s.disp ∧ (s.closePeriod).sched = s.sched ∧
      (s.closePeriod).chans = s.chans ∧ (s.closePeriod).pos = s.pos ∧
      (s.closePeriod).meas = s.meas ∧ (s.closePeriod).resetHeld = s.resetHeld ∧
      (s.closePeriod).choices = s.choices ∧ (s.closePeriod).pending = s.pending := by
  simp [State.closePeriod]

@[simp] theorem State.enterConfig_frame (c : StateCause) :
    (s.enterConfig c).time = s.time ∧ (s.enterConfig c).disp = s.disp ∧
      (s.enterConfig c).sched = s.sched ∧ (s.enterConfig c).chans = s.chans ∧
      (s.enterConfig c).pos = s.pos ∧ (s.enterConfig c).meas = s.meas ∧
      (s.enterConfig c).resetHeld = s.resetHeld ∧ (s.enterConfig c).choices = s.choices ∧
      (s.enterConfig c).pending = s.pending := by
  simp [State.enterConfig]

@[simp] theorem State.leaveTaken_frame :
    (s.leaveTaken).pos = s.pos ∧ (s.leaveTaken).meas = s.meas ∧
      (s.leaveTaken).resetHeld = s.resetHeld ∧ (s.leaveTaken).choices = s.choices ∧
      (s.leaveTaken).pending = s.pending := by
  simp [State.leaveTaken]

@[simp] theorem State.leave_frame :
    (s.leave).pos = s.pos ∧ (s.leave).meas = s.meas ∧ (s.leave).resetHeld = s.resetHeld ∧
      (s.leave).choices = s.choices ∧ (s.leave).pending = s.pending := by
  unfold State.leave; (repeat' split) <;> simp

@[simp] theorem State.placeLeave_frame :
    (s.placeLeave).time = s.time ∧ (s.placeLeave).station = s.station ∧
      (s.placeLeave).disp = s.disp ∧ (s.placeLeave).sched = s.sched ∧
      (s.placeLeave).chans = s.chans ∧ (s.placeLeave).pos = s.pos ∧
      (s.placeLeave).meas = s.meas ∧ (s.placeLeave).host = s.host ∧
      (s.placeLeave).resetHeld = s.resetHeld ∧ (s.placeLeave).choices = s.choices ∧
      (s.placeLeave).pending = s.pending := by
  simp [State.placeLeave]

@[simp] theorem State.leaveTimeout_frame :
    (s.leaveTimeout).time = s.time ∧ (s.leaveTimeout).disp = s.disp ∧
      (s.leaveTimeout).sched = s.sched ∧ (s.leaveTimeout).chans = s.chans ∧
      (s.leaveTimeout).pos = s.pos ∧ (s.leaveTimeout).meas = s.meas ∧
      (s.leaveTimeout).resetHeld = s.resetHeld ∧ (s.leaveTimeout).choices = s.choices ∧
      (s.leaveTimeout).pending = s.pending := by
  simp [State.leaveTimeout]

@[simp] theorem State.emptyReports_frame :
    (s.emptyReports).line = s.line ∧ (s.emptyReports).time = s.time ∧
      (s.emptyReports).station = s.station ∧ (s.emptyReports).disp = s.disp ∧
      (s.emptyReports).sched = s.sched ∧ (s.emptyReports).chans = s.chans ∧
      (s.emptyReports).pos = s.pos ∧ (s.emptyReports).meas = s.meas ∧
      (s.emptyReports).resetHeld = s.resetHeld ∧ (s.emptyReports).choices = s.choices ∧
      (s.emptyReports).pending = s.pending := by
  simp [State.emptyReports]

@[simp] theorem State.zeroCounter_frame :
    (s.zeroCounter).line = s.line ∧ (s.zeroCounter).time = s.time ∧
      (s.zeroCounter).station = s.station ∧ (s.zeroCounter).disp = s.disp ∧
      (s.zeroCounter).chans = s.chans ∧ (s.zeroCounter).pos = s.pos ∧
      (s.zeroCounter).meas = s.meas ∧ (s.zeroCounter).host = s.host ∧
      (s.zeroCounter).resetHeld = s.resetHeld ∧ (s.zeroCounter).choices = s.choices ∧
      (s.zeroCounter).pending = s.pending := by
  simp [State.zeroCounter]

@[simp] theorem State.restartBlocks_frame :
    (s.restartBlocks).station = s.station ∧ (s.restartBlocks).sched = s.sched ∧
      (s.restartBlocks).resetHeld = s.resetHeld ∧ (s.restartBlocks).choices = s.choices ∧
      (s.restartBlocks).pending = s.pending := by
  simp [State.restartBlocks]

@[simp] theorem State.restart_frame :
    (s.restart).resetHeld = s.resetHeld ∧ (s.restart).choices = s.choices ∧
      (s.restart).pending = s.pending := by
  simp [State.restart]

@[simp] theorem State.listenPeriod_frame (d : BitVec 48) :
    (s.listenPeriod d).time = s.time ∧ (s.listenPeriod d).station = s.station ∧
      (s.listenPeriod d).disp = s.disp ∧ (s.listenPeriod d).sched = s.sched ∧
      (s.listenPeriod d).chans = s.chans ∧ (s.listenPeriod d).pos = s.pos ∧
      (s.listenPeriod d).meas = s.meas ∧ (s.listenPeriod d).resetHeld = s.resetHeld ∧
      (s.listenPeriod d).pending = s.pending := by
  unfold State.listenPeriod; (repeat' split) <;> simp

@[simp] theorem State.joinStep_frame (c : JoinChoice) :
    (s.joinStep c).disp = s.disp ∧ (s.joinStep c).sched = s.sched ∧ (s.joinStep c).pos = s.pos ∧
      (s.joinStep c).meas = s.meas ∧ (s.joinStep c).resetHeld = s.resetHeld ∧
      (s.joinStep c).pending = s.pending := by
  simp [State.joinStep]

@[simp] theorem State.listenExpiry_frame :
    (s.listenExpiry).disp = s.disp ∧ (s.listenExpiry).sched = s.sched ∧
      (s.listenExpiry).pos = s.pos ∧ (s.listenExpiry).meas = s.meas ∧
      (s.listenExpiry).resetHeld = s.resetHeld ∧ (s.listenExpiry).pending = s.pending := by
  simp [State.listenExpiry]

@[simp] theorem State.rearmSub_frame :
    (s.rearmSub).line = s.line ∧ (s.rearmSub).time = s.time ∧ (s.rearmSub).station = s.station ∧
      (s.rearmSub).sched = s.sched ∧ (s.rearmSub).chans = s.chans ∧ (s.rearmSub).pos = s.pos ∧
      (s.rearmSub).meas = s.meas ∧ (s.rearmSub).resetHeld = s.resetHeld ∧
      (s.rearmSub).choices = s.choices ∧ (s.rearmSub).pending = s.pending := by
  unfold State.rearmSub; (repeat' split) <;> simp

@[simp] theorem State.rearmCmp_frame :
    (s.rearmCmp).line = s.line ∧ (s.rearmCmp).time = s.time ∧ (s.rearmCmp).station = s.station ∧
      (s.rearmCmp).disp = s.disp ∧ (s.rearmCmp).sched = s.sched ∧ (s.rearmCmp).chans = s.chans ∧
      (s.rearmCmp).pos = s.pos ∧ (s.rearmCmp).resetHeld = s.resetHeld ∧
      (s.rearmCmp).choices = s.choices ∧ (s.rearmCmp).pending = s.pending := by
  unfold State.rearmCmp; (repeat' split) <;> simp

@[simp] theorem State.restore_frame :
    (s.restore).line = s.line ∧ (s.restore).time = s.time ∧ (s.restore).station = s.station ∧
      (s.restore).disp = s.disp ∧ (s.restore).sched = s.sched ∧ (s.restore).pos = s.pos ∧
      (s.restore).meas = s.meas ∧ (s.restore).resetHeld = s.resetHeld ∧
      (s.restore).choices = s.choices ∧ (s.restore).pending = s.pending := by
  unfold State.restore; (repeat' split) <;> simp

@[simp] theorem State.inject_frame :
    (s.inject).time = s.time ∧ (s.inject).station = s.station ∧ (s.inject).sched = s.sched ∧
      (s.inject).chans = s.chans ∧ (s.inject).pos = s.pos ∧ (s.inject).meas = s.meas ∧
      (s.inject).resetHeld = s.resetHeld ∧ (s.inject).choices = s.choices ∧
      (s.inject).pending = s.pending := by
  unfold State.inject; (repeat' split) <;> simp

/-! ### The line engine -/

@[simp] theorem State.freeLine_frame :
    (s.freeLine).time = s.time ∧ (s.freeLine).station = s.station ∧ (s.freeLine).disp = s.disp ∧
      (s.freeLine).sched = s.sched ∧ (s.freeLine).chans = s.chans ∧ (s.freeLine).pos = s.pos ∧
      (s.freeLine).meas = s.meas ∧ (s.freeLine).resetHeld = s.resetHeld ∧
      (s.freeLine).pending = s.pending := by
  unfold State.freeLine; (repeat' split) <;> simp

@[simp] theorem State.gap_frame (n : Nat) :
    (s.gap n).time = s.time ∧ (s.gap n).station = s.station ∧ (s.gap n).disp = s.disp ∧
      (s.gap n).sched = s.sched ∧ (s.gap n).chans = s.chans ∧ (s.gap n).pos = s.pos ∧
      (s.gap n).meas = s.meas ∧ (s.gap n).resetHeld = s.resetHeld ∧
      (s.gap n).pending = s.pending := by
  simp only [State.gap]; split <;> simp

@[simp] theorem State.beginFrame_frame :
    (s.beginFrame).time = s.time ∧ (s.beginFrame).station = s.station ∧
      (s.beginFrame).disp = s.disp ∧ (s.beginFrame).sched = s.sched ∧
      (s.beginFrame).chans = s.chans ∧ (s.beginFrame).pos = s.pos ∧
      (s.beginFrame).meas = s.meas ∧ (s.beginFrame).host = s.host ∧
      (s.beginFrame).resetHeld = s.resetHeld ∧ (s.beginFrame).choices = s.choices ∧
      (s.beginFrame).pending = s.pending := by
  simp [State.beginFrame]

@[simp] theorem State.startEdge_frame (l : Level) :
    (s.startEdge l).time = s.time ∧ (s.startEdge l).station = s.station ∧
      (s.startEdge l).disp = s.disp ∧ (s.startEdge l).sched = s.sched ∧
      (s.startEdge l).chans = s.chans ∧ (s.startEdge l).pos = s.pos ∧
      (s.startEdge l).meas = s.meas ∧ (s.startEdge l).host = s.host ∧
      (s.startEdge l).resetHeld = s.resetHeld ∧ (s.startEdge l).choices = s.choices ∧
      (s.startEdge l).pending = s.pending := by
  simp only [State.startEdge]; split <;> simp

@[simp] theorem State.stickLine_frame :
    (s.stickLine).time = s.time ∧ (s.stickLine).station = s.station ∧
      (s.stickLine).disp = s.disp ∧ (s.stickLine).sched = s.sched ∧
      (s.stickLine).chans = s.chans ∧ (s.stickLine).pos = s.pos ∧ (s.stickLine).meas = s.meas ∧
      (s.stickLine).resetHeld = s.resetHeld ∧ (s.stickLine).choices = s.choices ∧
      (s.stickLine).pending = s.pending := by
  simp [State.stickLine]

@[simp] theorem State.lineStuck_frame (n : Nat) :
    (s.lineStuck n).time = s.time ∧ (s.lineStuck n).station = s.station ∧
      (s.lineStuck n).disp = s.disp ∧ (s.lineStuck n).sched = s.sched ∧
      (s.lineStuck n).chans = s.chans ∧ (s.lineStuck n).pos = s.pos ∧
      (s.lineStuck n).meas = s.meas ∧ (s.lineStuck n).resetHeld = s.resetHeld ∧
      (s.lineStuck n).choices = s.choices ∧ (s.lineStuck n).pending = s.pending := by
  simp only [State.lineStuck]; split <;> simp

@[simp] theorem State.deliver_frame (t : LineTime) (r : Received) :
    (s.deliver t r).line = s.line ∧ (s.deliver t r).station = s.station ∧
      (s.deliver t r).sched = s.sched ∧ (s.deliver t r).chans = s.chans ∧
      (s.deliver t r).pos = s.pos ∧ (s.deliver t r).meas = s.meas ∧
      (s.deliver t r).resetHeld = s.resetHeld ∧ (s.deliver t r).choices = s.choices ∧
      (s.deliver t r).pending = s.pending := by
  cases r <;> simp [State.deliver]

@[simp] theorem State.receive_frame (t : LineTime) (r : Option Received) :
    (s.receive t r).station = s.station ∧ (s.receive t r).sched = s.sched ∧
      (s.receive t r).chans = s.chans ∧ (s.receive t r).pos = s.pos ∧
      (s.receive t r).meas = s.meas ∧ (s.receive t r).resetHeld = s.resetHeld ∧
      (s.receive t r).choices = s.choices ∧ (s.receive t r).pending = s.pending := by
  unfold State.receive; (repeat' split) <;> simp

@[simp] theorem State.frameEnd_frame (f : RxFrame) (l : List CharSample) :
    (s.frameEnd f l).station = s.station ∧ (s.frameEnd f l).sched = s.sched ∧
      (s.frameEnd f l).chans = s.chans ∧ (s.frameEnd f l).pos = s.pos ∧
      (s.frameEnd f l).meas = s.meas ∧ (s.frameEnd f l).resetHeld = s.resetHeld ∧
      (s.frameEnd f l).choices = s.choices ∧ (s.frameEnd f l).pending = s.pending := by
  simp [State.frameEnd]

@[simp] theorem State.attemptBegin_frame :
    (s.attemptBegin).time = s.time ∧ (s.attemptBegin).station = s.station ∧
      (s.attemptBegin).disp = s.disp ∧ (s.attemptBegin).sched = s.sched ∧
      (s.attemptBegin).chans = s.chans ∧ (s.attemptBegin).pos = s.pos ∧
      (s.attemptBegin).meas = s.meas ∧ (s.attemptBegin).host = s.host ∧
      (s.attemptBegin).resetHeld = s.resetHeld ∧ (s.attemptBegin).choices = s.choices ∧
      (s.attemptBegin).pending = s.pending := by
  unfold State.attemptBegin; (repeat' split) <;> simp

@[simp] theorem State.arbitrationLost_frame (n : Nat) :
    (s.arbitrationLost n).time = s.time ∧ (s.arbitrationLost n).station = s.station ∧
      (s.arbitrationLost n).disp = s.disp ∧ (s.arbitrationLost n).sched = s.sched ∧
      (s.arbitrationLost n).chans = s.chans ∧ (s.arbitrationLost n).pos = s.pos ∧
      (s.arbitrationLost n).meas = s.meas ∧ (s.arbitrationLost n).host = s.host ∧
      (s.arbitrationLost n).resetHeld = s.resetHeld ∧ (s.arbitrationLost n).choices = s.choices ∧
      (s.arbitrationLost n).pending = s.pending := by
  simp [State.arbitrationLost]

@[simp] theorem State.arbitrationWon_frame :
    (s.arbitrationWon).time = s.time ∧ (s.arbitrationWon).station = s.station ∧
      (s.arbitrationWon).disp = s.disp ∧ (s.arbitrationWon).sched = s.sched ∧
      (s.arbitrationWon).chans = s.chans ∧ (s.arbitrationWon).pos = s.pos ∧
      (s.arbitrationWon).meas = s.meas ∧ (s.arbitrationWon).host = s.host ∧
      (s.arbitrationWon).resetHeld = s.resetHeld ∧ (s.arbitrationWon).choices = s.choices ∧
      (s.arbitrationWon).pending = s.pending := by
  simp [State.arbitrationWon]

@[simp] theorem State.abandon_frame (n : Notice) :
    (s.abandon n).time = s.time ∧ (s.abandon n).disp = s.disp ∧ (s.abandon n).sched = s.sched ∧
      (s.abandon n).chans = s.chans ∧ (s.abandon n).pos = s.pos ∧ (s.abandon n).meas = s.meas ∧
      (s.abandon n).resetHeld = s.resetHeld ∧ (s.abandon n).choices = s.choices ∧
      (s.abandon n).pending = s.pending := by
  unfold State.abandon; (repeat' split) <;> simp

@[simp] theorem State.bitError_frame (n : Nat) :
    (s.bitError n).time = s.time ∧ (s.bitError n).disp = s.disp ∧
      (s.bitError n).sched = s.sched ∧ (s.bitError n).chans = s.chans ∧
      (s.bitError n).pos = s.pos ∧ (s.bitError n).meas = s.meas ∧
      (s.bitError n).resetHeld = s.resetHeld ∧ (s.bitError n).choices = s.choices ∧
      (s.bitError n).pending = s.pending := by
  simp only [State.bitError]; (repeat' split) <;> simp

@[simp] theorem State.completed_frame (t : LineTime) (n : Notice) :
    (s.completed t n).sched = s.sched ∧ (s.completed t n).chans = s.chans ∧
      (s.completed t n).pos = s.pos ∧ (s.completed t n).meas = s.meas ∧
      (s.completed t n).resetHeld = s.resetHeld ∧ (s.completed t n).choices = s.choices ∧
      (s.completed t n).pending = s.pending := by
  unfold State.completed; (repeat' split) <;> simp

@[simp] theorem State.attemptComplete_frame (f : RxFrame) :
    (s.attemptComplete f).sched = s.sched ∧ (s.attemptComplete f).chans = s.chans ∧
      (s.attemptComplete f).pos = s.pos ∧ (s.attemptComplete f).meas = s.meas ∧
      (s.attemptComplete f).resetHeld = s.resetHeld ∧ (s.attemptComplete f).choices = s.choices ∧
      (s.attemptComplete f).pending = s.pending := by
  simp only [State.attemptComplete]; split <;> simp

/-! ### The host port -/

@[simp] theorem State.hostWrite_frame (a : BitVec 7) :
    (s.hostWrite a).line = s.line ∧ (s.hostWrite a).time = s.time ∧
      (s.hostWrite a).station = s.station ∧ (s.hostWrite a).disp = s.disp ∧
      (s.hostWrite a).sched = s.sched ∧ (s.hostWrite a).chans = s.chans ∧
      (s.hostWrite a).pos = s.pos ∧ (s.hostWrite a).meas = s.meas ∧
      (s.hostWrite a).resetHeld = s.resetHeld ∧ (s.hostWrite a).choices = s.choices ∧
      (s.hostWrite a).pending = s.pending := by
  simp [State.hostWrite]

@[simp] theorem State.accessRefused_frame (a : Byte) :
    (s.accessRefused a).line = s.line ∧ (s.accessRefused a).time = s.time ∧
      (s.accessRefused a).station = s.station ∧ (s.accessRefused a).disp = s.disp ∧
      (s.accessRefused a).sched = s.sched ∧ (s.accessRefused a).chans = s.chans ∧
      (s.accessRefused a).pos = s.pos ∧ (s.accessRefused a).meas = s.meas ∧
      (s.accessRefused a).resetHeld = s.resetHeld ∧ (s.accessRefused a).choices = s.choices ∧
      (s.accessRefused a).pending = s.pending := by
  simp [State.accessRefused]

@[simp] theorem State.readLatch_frame (n : Nat) :
    (s.readLatch n).line = s.line ∧ (s.readLatch n).time = s.time ∧
      (s.readLatch n).station = s.station ∧ (s.readLatch n).disp = s.disp ∧
      (s.readLatch n).sched = s.sched ∧ (s.readLatch n).chans = s.chans ∧
      (s.readLatch n).pos = s.pos ∧ (s.readLatch n).host = s.host ∧
      (s.readLatch n).resetHeld = s.resetHeld ∧ (s.readLatch n).choices = s.choices ∧
      (s.readLatch n).pending = s.pending := by
  unfold State.readLatch; (repeat' split) <;> simp

@[simp] theorem State.loadEffect_frame (t n : Nat) :
    (s.loadEffect t n).line = s.line ∧ (s.loadEffect t n).time = s.time ∧
      (s.loadEffect t n).station = s.station ∧ (s.loadEffect t n).disp = s.disp ∧
      (s.loadEffect t n).sched = s.sched ∧ (s.loadEffect t n).chans = s.chans ∧
      (s.loadEffect t n).pos = s.pos ∧ (s.loadEffect t n).host = s.host ∧
      (s.loadEffect t n).resetHeld = s.resetHeld ∧ (s.loadEffect t n).choices = s.choices ∧
      (s.loadEffect t n).pending = s.pending := by
  unfold State.loadEffect; (repeat' split) <;> simp

@[simp] theorem State.writeIndex_frame (b : Byte) :
    (s.writeIndex b).line = s.line ∧ (s.writeIndex b).time = s.time ∧
      (s.writeIndex b).station = s.station ∧ (s.writeIndex b).disp = s.disp ∧
      (s.writeIndex b).sched = s.sched ∧ (s.writeIndex b).chans = s.chans ∧
      (s.writeIndex b).pos = s.pos ∧ (s.writeIndex b).resetHeld = s.resetHeld ∧
      (s.writeIndex b).choices = s.choices ∧ (s.writeIndex b).pending = s.pending := by
  simp [State.writeIndex]

@[simp] theorem State.writeStaging_frame (n : Nat) (b : Byte) :
    (s.writeStaging n b).line = s.line ∧ (s.writeStaging n b).time = s.time ∧
      (s.writeStaging n b).station = s.station ∧ (s.writeStaging n b).disp = s.disp ∧
      (s.writeStaging n b).sched = s.sched ∧ (s.writeStaging n b).chans = s.chans ∧
      (s.writeStaging n b).pos = s.pos ∧ (s.writeStaging n b).meas = s.meas ∧
      (s.writeStaging n b).resetHeld = s.resetHeld ∧ (s.writeStaging n b).choices = s.choices ∧
      (s.writeStaging n b).pending = s.pending := by
  simp [State.writeStaging]

@[simp] theorem State.writeData_frame (n : Nat) (b : Byte) :
    (s.writeData n b).line = s.line ∧ (s.writeData n b).time = s.time ∧
      (s.writeData n b).station = s.station ∧ (s.writeData n b).disp = s.disp ∧
      (s.writeData n b).sched = s.sched ∧ (s.writeData n b).chans = s.chans ∧
      (s.writeData n b).pos = s.pos ∧ (s.writeData n b).meas = s.meas ∧
      (s.writeData n b).resetHeld = s.resetHeld ∧ (s.writeData n b).choices = s.choices ∧
      (s.writeData n b).pending = s.pending := by
  unfold State.writeData; (repeat' split) <;> simp

@[simp] theorem State.storeStation_frame :
    (s.storeStation).line = s.line ∧ (s.storeStation).time = s.time ∧
      (s.storeStation).disp = s.disp ∧ (s.storeStation).sched = s.sched ∧
      (s.storeStation).chans = s.chans ∧ (s.storeStation).pos = s.pos ∧
      (s.storeStation).meas = s.meas ∧ (s.storeStation).host = s.host ∧
      (s.storeStation).resetHeld = s.resetHeld ∧ (s.storeStation).choices = s.choices ∧
      (s.storeStation).pending = s.pending := by
  simp [State.storeStation]

@[simp] theorem State.storeBinding_frame (r : Fin 32) (b : BindingRow) :
    (s.storeBinding r b).line = s.line ∧ (s.storeBinding r b).time = s.time ∧
      (s.storeBinding r b).station = s.station ∧ (s.storeBinding r b).sched = s.sched ∧
      (s.storeBinding r b).chans = s.chans ∧ (s.storeBinding r b).pos = s.pos ∧
      (s.storeBinding r b).meas = s.meas ∧ (s.storeBinding r b).host = s.host ∧
      (s.storeBinding r b).resetHeld = s.resetHeld ∧ (s.storeBinding r b).choices = s.choices ∧
      (s.storeBinding r b).pending = s.pending := by
  simp [State.storeBinding]

@[simp] theorem State.storeSub_frame (i : Fin 64) (e : SubEntry) :
    (s.storeSub i e).line = s.line ∧ (s.storeSub i e).time = s.time ∧
      (s.storeSub i e).station = s.station ∧ (s.storeSub i e).sched = s.sched ∧
      (s.storeSub i e).chans = s.chans ∧ (s.storeSub i e).pos = s.pos ∧
      (s.storeSub i e).meas = s.meas ∧ (s.storeSub i e).host = s.host ∧
      (s.storeSub i e).resetHeld = s.resetHeld ∧ (s.storeSub i e).choices = s.choices ∧
      (s.storeSub i e).pending = s.pending := by
  simp [State.storeSub]

@[simp] theorem State.storeCmp_frame (k : Fin 2) (g : CmpConfig) :
    (s.storeCmp k g).line = s.line ∧ (s.storeCmp k g).time = s.time ∧
      (s.storeCmp k g).station = s.station ∧ (s.storeCmp k g).disp = s.disp ∧
      (s.storeCmp k g).sched = s.sched ∧ (s.storeCmp k g).chans = s.chans ∧
      (s.storeCmp k g).pos = s.pos ∧ (s.storeCmp k g).host = s.host ∧
      (s.storeCmp k g).resetHeld = s.resetHeld ∧ (s.storeCmp k g).choices = s.choices ∧
      (s.storeCmp k g).pending = s.pending := by
  simp [State.storeCmp]

@[simp] theorem State.storeChan_frame (c : Fin 8) (g : ChanConfig) :
    (s.storeChan c g).line = s.line ∧ (s.storeChan c g).time = s.time ∧
      (s.storeChan c g).station = s.station ∧ (s.storeChan c g).disp = s.disp ∧
      (s.storeChan c g).sched = s.sched ∧ (s.storeChan c g).pos = s.pos ∧
      (s.storeChan c g).meas = s.meas ∧ (s.storeChan c g).host = s.host ∧
      (s.storeChan c g).resetHeld = s.resetHeld ∧ (s.storeChan c g).choices = s.choices ∧
      (s.storeChan c g).pending = s.pending := by
  simp [State.storeChan]

@[simp] theorem State.storePos_frame (g : PosConfig) :
    (s.storePos g).line = s.line ∧ (s.storePos g).time = s.time ∧
      (s.storePos g).station = s.station ∧ (s.storePos g).disp = s.disp ∧
      (s.storePos g).sched = s.sched ∧ (s.storePos g).chans = s.chans ∧
      (s.storePos g).meas = s.meas ∧ (s.storePos g).host = s.host ∧
      (s.storePos g).resetHeld = s.resetHeld ∧ (s.storePos g).choices = s.choices ∧
      (s.storePos g).pending = s.pending := by
  unfold State.storePos; (repeat' split) <;> simp

@[simp] theorem State.storeStationAt_frame (i : Nat) :
    (s.storeStationAt i).line = s.line ∧ (s.storeStationAt i).time = s.time ∧
      (s.storeStationAt i).disp = s.disp ∧ (s.storeStationAt i).sched = s.sched ∧
      (s.storeStationAt i).chans = s.chans ∧ (s.storeStationAt i).pos = s.pos ∧
      (s.storeStationAt i).meas = s.meas ∧ (s.storeStationAt i).resetHeld = s.resetHeld ∧
      (s.storeStationAt i).choices = s.choices ∧ (s.storeStationAt i).pending = s.pending := by
  simp only [State.storeStationAt, State.storeChecked]; (repeat' split) <;> simp

@[simp] theorem State.storeBindingAt_frame (i : Nat) :
    (s.storeBindingAt i).line = s.line ∧ (s.storeBindingAt i).time = s.time ∧
      (s.storeBindingAt i).station = s.station ∧ (s.storeBindingAt i).sched = s.sched ∧
      (s.storeBindingAt i).chans = s.chans ∧ (s.storeBindingAt i).pos = s.pos ∧
      (s.storeBindingAt i).meas = s.meas ∧ (s.storeBindingAt i).resetHeld = s.resetHeld ∧
      (s.storeBindingAt i).choices = s.choices ∧ (s.storeBindingAt i).pending = s.pending := by
  simp only [State.storeBindingAt, State.storeChecked]; (repeat' split) <;> simp

@[simp] theorem State.storeSubAt_frame (i : Nat) :
    (s.storeSubAt i).line = s.line ∧ (s.storeSubAt i).time = s.time ∧
      (s.storeSubAt i).station = s.station ∧ (s.storeSubAt i).sched = s.sched ∧
      (s.storeSubAt i).chans = s.chans ∧ (s.storeSubAt i).pos = s.pos ∧
      (s.storeSubAt i).meas = s.meas ∧ (s.storeSubAt i).resetHeld = s.resetHeld ∧
      (s.storeSubAt i).choices = s.choices ∧ (s.storeSubAt i).pending = s.pending := by
  simp only [State.storeSubAt, State.storeChecked]; (repeat' split) <;> simp

@[simp] theorem State.storeCmpAt_frame (i : Nat) :
    (s.storeCmpAt i).line = s.line ∧ (s.storeCmpAt i).time = s.time ∧
      (s.storeCmpAt i).station = s.station ∧ (s.storeCmpAt i).disp = s.disp ∧
      (s.storeCmpAt i).sched = s.sched ∧ (s.storeCmpAt i).chans = s.chans ∧
      (s.storeCmpAt i).pos = s.pos ∧ (s.storeCmpAt i).resetHeld = s.resetHeld ∧
      (s.storeCmpAt i).choices = s.choices ∧ (s.storeCmpAt i).pending = s.pending := by
  simp only [State.storeCmpAt, State.storeChecked]; (repeat' split) <;> simp

@[simp] theorem State.storeChanAt_frame (i : Nat) :
    (s.storeChanAt i).line = s.line ∧ (s.storeChanAt i).time = s.time ∧
      (s.storeChanAt i).station = s.station ∧ (s.storeChanAt i).disp = s.disp ∧
      (s.storeChanAt i).sched = s.sched ∧ (s.storeChanAt i).pos = s.pos ∧
      (s.storeChanAt i).meas = s.meas ∧ (s.storeChanAt i).resetHeld = s.resetHeld ∧
      (s.storeChanAt i).choices = s.choices ∧ (s.storeChanAt i).pending = s.pending := by
  simp only [State.storeChanAt, State.storeChecked]; (repeat' split) <;> simp

@[simp] theorem State.storePosAt_frame (i : Nat) :
    (s.storePosAt i).line = s.line ∧ (s.storePosAt i).time = s.time ∧
      (s.storePosAt i).station = s.station ∧ (s.storePosAt i).disp = s.disp ∧
      (s.storePosAt i).sched = s.sched ∧ (s.storePosAt i).chans = s.chans ∧
      (s.storePosAt i).meas = s.meas ∧ (s.storePosAt i).resetHeld = s.resetHeld ∧
      (s.storePosAt i).choices = s.choices ∧ (s.storePosAt i).pending = s.pending := by
  simp only [State.storePosAt, State.storeChecked]; (repeat' split) <;> simp

@[simp] theorem State.storeRecord_frame :
    (s.storeRecord).line = s.line ∧ (s.storeRecord).time = s.time ∧
      (s.storeRecord).sched = s.sched ∧ (s.storeRecord).resetHeld = s.resetHeld ∧
      (s.storeRecord).choices = s.choices ∧ (s.storeRecord).pending = s.pending := by
  unfold State.storeRecord; (repeat' split) <;> simp

@[simp] theorem State.store_frame :
    (s.store).line = s.line ∧ (s.store).time = s.time ∧ (s.store).sched = s.sched ∧
      (s.store).resetHeld = s.resetHeld ∧ (s.store).choices = s.choices ∧
      (s.store).pending = s.pending := by
  unfold State.store; (repeat' split) <;> simp

@[simp] theorem State.takeSnapshot_frame :
    (s.takeSnapshot).line = s.line ∧ (s.takeSnapshot).time = s.time ∧
      (s.takeSnapshot).station = s.station ∧ (s.takeSnapshot).disp = s.disp ∧
      (s.takeSnapshot).sched = s.sched ∧ (s.takeSnapshot).chans = s.chans ∧
      (s.takeSnapshot).pos = s.pos ∧ (s.takeSnapshot).meas = s.meas ∧
      (s.takeSnapshot).resetHeld = s.resetHeld ∧ (s.takeSnapshot).choices = s.choices ∧
      (s.takeSnapshot).pending = s.pending := by
  simp [State.takeSnapshot]

@[simp] theorem State.captureHead_frame :
    (s.captureHead).line = s.line ∧ (s.captureHead).time = s.time ∧
      (s.captureHead).station = s.station ∧ (s.captureHead).disp = s.disp ∧
      (s.captureHead).sched = s.sched ∧ (s.captureHead).chans = s.chans ∧
      (s.captureHead).pos = s.pos ∧ (s.captureHead).meas = s.meas ∧
      (s.captureHead).resetHeld = s.resetHeld ∧ (s.captureHead).choices = s.choices ∧
      (s.captureHead).pending = s.pending := by
  simp [State.captureHead]

@[simp] theorem State.removeHead_frame :
    (s.removeHead).line = s.line ∧ (s.removeHead).time = s.time ∧
      (s.removeHead).station = s.station ∧ (s.removeHead).disp = s.disp ∧
      (s.removeHead).sched = s.sched ∧ (s.removeHead).chans = s.chans ∧
      (s.removeHead).pos = s.pos ∧ (s.removeHead).meas = s.meas ∧
      (s.removeHead).resetHeld = s.resetHeld ∧ (s.removeHead).choices = s.choices ∧
      (s.removeHead).pending = s.pending := by
  simp only [State.removeHead]; split <;> simp

@[simp] theorem State.writeParam_frame (i : Nat) (b : Byte) :
    (s.writeParam i b).line = s.line ∧ (s.writeParam i b).time = s.time ∧
      (s.writeParam i b).station = s.station ∧ (s.writeParam i b).disp = s.disp ∧
      (s.writeParam i b).sched = s.sched ∧ (s.writeParam i b).chans = s.chans ∧
      (s.writeParam i b).pos = s.pos ∧ (s.writeParam i b).meas = s.meas ∧
      (s.writeParam i b).resetHeld = s.resetHeld ∧ (s.writeParam i b).choices = s.choices ∧
      (s.writeParam i b).pending = s.pending := by
  simp [State.writeParam]

@[simp] theorem State.writeSelect_frame (b : Byte) :
    (s.writeSelect b).line = s.line ∧ (s.writeSelect b).time = s.time ∧
      (s.writeSelect b).station = s.station ∧ (s.writeSelect b).disp = s.disp ∧
      (s.writeSelect b).sched = s.sched ∧ (s.writeSelect b).chans = s.chans ∧
      (s.writeSelect b).pos = s.pos ∧ (s.writeSelect b).meas = s.meas ∧
      (s.writeSelect b).resetHeld = s.resetHeld ∧ (s.writeSelect b).choices = s.choices ∧
      (s.writeSelect b).pending = s.pending := by
  simp [State.writeSelect]

@[simp] theorem State.command_frame (b : Byte) :
    (s.command b).resetHeld = s.resetHeld ∧ (s.command b).choices = s.choices ∧
      (s.command b).pending = s.pending := by
  unfold State.command; (repeat' split) <;> simp

@[simp] theorem State.writeRegister_frame (a : Nat) (b : Byte) :
    (s.writeRegister a b).resetHeld = s.resetHeld ∧ (s.writeRegister a b).choices = s.choices ∧
      (s.writeRegister a b).pending = s.pending := by
  unfold State.writeRegister; (repeat' split) <;> simp

@[simp] theorem State.behindByte7_frame (a : BitVec 7) :
    (s.behindByte7 a).line = s.line ∧ (s.behindByte7 a).time = s.time ∧
      (s.behindByte7 a).station = s.station ∧ (s.behindByte7 a).disp = s.disp ∧
      (s.behindByte7 a).sched = s.sched ∧ (s.behindByte7 a).chans = s.chans ∧
      (s.behindByte7 a).pos = s.pos ∧ (s.behindByte7 a).meas = s.meas ∧
      (s.behindByte7 a).resetHeld = s.resetHeld ∧ (s.behindByte7 a).choices = s.choices ∧
      (s.behindByte7 a).pending = s.pending := by
  unfold State.behindByte7; (repeat' split) <;> simp

@[simp] theorem State.loadByte_frame (a : BitVec 7) :
    (s.loadByte a).line = s.line ∧ (s.loadByte a).time = s.time ∧
      (s.loadByte a).station = s.station ∧ (s.loadByte a).disp = s.disp ∧
      (s.loadByte a).sched = s.sched ∧ (s.loadByte a).chans = s.chans ∧
      (s.loadByte a).pos = s.pos ∧ (s.loadByte a).meas = s.meas ∧
      (s.loadByte a).resetHeld = s.resetHeld ∧ (s.loadByte a).choices = s.choices ∧
      (s.loadByte a).pending = s.pending := by
  simp [State.loadByte]

@[simp] theorem State.readRegister_frame (a : BitVec 7) :
    (s.readRegister a).line = s.line ∧ (s.readRegister a).time = s.time ∧
      (s.readRegister a).station = s.station ∧ (s.readRegister a).disp = s.disp ∧
      (s.readRegister a).sched = s.sched ∧ (s.readRegister a).chans = s.chans ∧
      (s.readRegister a).pos = s.pos ∧ (s.readRegister a).meas = s.meas ∧
      (s.readRegister a).resetHeld = s.resetHeld ∧ (s.readRegister a).choices = s.choices ∧
      (s.readRegister a).pending = s.pending := by
  unfold State.readRegister; (repeat' split) <;> simp

@[simp] theorem State.dataByte_frame (m : Transfer) (a : BitVec 7) (b : Byte) :
    (s.dataByte m a b).resetHeld = s.resetHeld ∧ (s.dataByte m a b).choices = s.choices ∧
      (s.dataByte m a b).pending = s.pending := by
  unfold State.dataByte; (repeat' split) <;> simp

@[simp] theorem State.portByte_frame (b : Byte) (d : Option Byte) :
    (s.portByte b d).resetHeld = s.resetHeld ∧ (s.portByte b d).choices = s.choices ∧
      (s.portByte b d).pending = s.pending := by
  unfold State.portByte; (repeat' split) <;> simp

@[simp] theorem State.tick_frame :
    (s.tick).disp = s.disp ∧ (s.tick).sched = s.sched ∧ (s.tick).meas = s.meas ∧
      (s.tick).host = s.host ∧ (s.tick).resetHeld = s.resetHeld ∧ (s.tick).choices = s.choices ∧
      (s.tick).pending = s.pending := by
  simp [State.tick]

end Sys2Proof.Machine
end

