-- ==== Sys2Proof/Laws/Ops.lean ====
section
/-! SUPPORT. What the shared operations do: how a meaning answers, the places of a table, the report
queue, the ordered queues, the requests of an entry, line time at the line engine, the host port's transaction,
the sampling of bits and the events that are due. -/

namespace Sys2Proof.Machine

/-! ### How a meaning answers -/

theorem act_released {s : State} (f : State → State) (h : s.resetHeld = false) :
    act s f = .next (f s) := by
  simp only [act, actIf, h, Bool.not_false, Bool.and_true, if_true]

theorem act_held {s : State} (f : State → State) (h : s.resetHeld = true) : act s f = .next s := by
  simp [act, actIf, h]

theorem actIf_due {s : State} {due : Bool} (f : State → State) (h : s.resetHeld = false)
    (hd : due = true) : actIf due s f = .next (f s) := by
  simp only [actIf, h, hd, Bool.not_false, Bool.and_true, if_true]

theorem actIf_not_due (s : State) {due : Bool} (f : State → State) (hd : due = false) :
    actIf due s f = .next s := by
  simp [actIf, hd]

theorem actIf_next {s t : State} {due : Bool} {f : State → State} (h : actIf due s f = .next t) :
    t = s ∨ (due = true ∧ s.resetHeld = false ∧ t = f s) := by
  unfold actIf at h
  split at h
  · rename_i hc
    simp at hc h
    exact Or.inr ⟨hc.1, hc.2, h.symm⟩
  · simp at h
    exact Or.inl h.symm

/-! ### Tables -/

theorem ixOf_val {n : Nat} (i : Fin n) : ixOf n i.val = some i := by
  simp [ixOf]

theorem ixOf_none {n i : Nat} (h : n ≤ i) : ixOf n i = none := by
  simp [ixOf, Nat.not_lt.mpr h]

@[simp] theorem getElem_updVec {α : Type} {n : Nat} (v : Vector α n) (i : Fin n) (f : α → α)
    (j : Nat) (h : j < n) : (updVec v i f)[j] = if i.val = j then f v[j] else v[j] := by
  unfold updVec
  rw [Vector.getElem_set]
  split <;> simp_all

@[simp] theorem getElem_mapVec {α : Type} {n : Nat} (v : Vector α n) (f : Nat → α → α) (j : Nat)
    (h : j < n) : (mapVec v f)[j] = f j v[j] := by
  simp [mapVec]

/-! ### The report queue (R189) -/

theorem pushReport_length_le {q : List Report} (r : Report) (h : q.length ≤ 32) :
    (pushReport q r).length ≤ 32 := by
  unfold pushReport
  split
  · rename_i r' hr
    have : q ≠ [] := by rintro rfl; simp at hr
    have := List.length_pos_iff.mpr this
    simp
    omega
  · have hcap : Config.reportCapacity = 32 := rfl
    split
    · simp
      omega
    · split
      · simp
        omega
      · exact h

theorem pushReport_ne_nil (q : List Report) (r : Report) (h : q.length ≤ 31) :
    pushReport q r ≠ [] := by
  have hcap : Config.reportCapacity = 32 := rfl
  unfold pushReport
  split
  · simp
  · split
    · simp
    · split
      · simp
      · omega

theorem reportAll_reports (s : State) (l : List ReportBody) :
    (s.reportAll l).host =
      { s.host with
        reports :=
          l.foldl (fun q b => pushReport q { body := b, time := s.time.lineTime })
            s.host.reports } := by
  induction l generalizing s with
  | nil => rfl
  | cons b l ih => exact ih (s.report b)

/-! ### The transmit queue (R121) -/

theorem sharedCount_placeNotice (n : Notice) (q : List Notice) :
    sharedCount (placeNotice n q) = sharedCount q + (if n.isSync then 0 else 1) := by
  induction q with
  | nil =>
    simp [placeNotice, sharedCount, List.countP_cons]
    cases n.isSync <;> rfl
  | cons m q ih =>
    simp only [placeNotice]
    split
    · simp [sharedCount, List.countP_cons]
      cases n.isSync <;> simp
    · simp only [sharedCount, List.countP_cons] at ih ⊢
      rw [ih]
      omega

theorem syncsIn_placeNotice (n : Notice) (q : List Notice) :
    (placeNotice n q).countP Notice.isSync = q.countP Notice.isSync + (if n.isSync then 1 else 0) := by
  induction q with
  | nil => simp [placeNotice, List.countP_cons]
  | cons m q ih =>
    simp only [placeNotice]
    split
    · simp [List.countP_cons]
    · simp only [List.countP_cons] at ih ⊢
      rw [ih]
      omega

theorem mem_placeNotice {n m : Notice} {q : List Notice} :
    m ∈ placeNotice n q ↔ m = n ∨ m ∈ q := by
  induction q with
  | nil => simp [placeNotice]
  | cons x q ih =>
    simp only [placeNotice]
    split
    · simp
    · simp only [List.mem_cons, ih]
      tauto

/-! ### The schedule (R45) -/

theorem placeEntry_length (e : SchedEntry) (l : List SchedEntry) :
    (placeEntry e l).length = l.length + 1 := by
  induction l with
  | nil => rfl
  | cons x l ih =>
    simp only [placeEntry]
    split <;> simp [ih]

theorem placeEntry_split (e : SchedEntry) (l : List SchedEntry) :
    ∃ a b, l = a ++ b ∧ placeEntry e l = a ++ e :: b := by
  induction l with
  | nil => exact ⟨[], [], rfl, rfl⟩
  | cons x l ih =>
    simp only [placeEntry]
    split
    · exact ⟨[], x :: l, rfl, rfl⟩
    · obtain ⟨a, b, h1, h2⟩ := ih
      exact ⟨x :: a, b, by simp [← h1], by simp [h2]⟩

theorem mem_placeEntry {e x : SchedEntry} {l : List SchedEntry} :
    x ∈ placeEntry e l ↔ x = e ∨ x ∈ l := by
  obtain ⟨a, b, h, h'⟩ := placeEntry_split e l
  rw [h', h]
  simp only [List.mem_append, List.mem_cons]
  tauto

/-! ### The expiries before a CANCEL (R57) -/

section ExpireBefore

variable {tag : BitVec 4} {n : Nat} {left l : List SchedEntry} {s : State} {e : SchedEntry}

theorem expireBefore_end (h : s.sched.entries = []) :
    State.expireBefore tag (n + 1) left s = s.putBack left := by
  simp [State.expireBefore, h]

theorem expireBefore_notDue (h : s.sched.entries = e :: l)
    (d : isLater e.due s.time.lineTime = true) :
    State.expireBefore tag (n + 1) left s = s.putBack left := by
  simp [State.expireBefore, h, d]

theorem expireBefore_cancelNow (h : s.sched.entries = e :: l)
    (d : isLater e.due s.time.lineTime = false) (c : Config.freeChoice s.choices % 3 = 0) :
    State.expireBefore tag (n + 1) left s = (s.useChoices 1).putBack left := by
  simp [State.expireBefore, h, d, c]

theorem expireBefore_leave (h : s.sched.entries = e :: l)
    (d : isLater e.due s.time.lineTime = false) (c : Config.freeChoice s.choices % 3 = 1)
    (g : e.tag = tag) :
    State.expireBefore tag (n + 1) left s =
      State.expireBefore tag n (left ++ [e])
        ((s.useChoices 1).setSched { s.sched with entries := l }) := by
  simp [State.expireBefore, h, d, c, g]

theorem expireBefore_expire (h : s.sched.entries = e :: l)
    (d : isLater e.due s.time.lineTime = false) (c : Config.freeChoice s.choices % 3 = 2) :
    State.expireBefore tag (n + 1) left s =
      State.expireBefore tag n left (s.useChoices 1).scheduleExpiry := by
  simp [State.expireBefore, h, d, c]

end ExpireBefore

/-! ### An entry that acts (R32, R61) -/

theorem takeUnderWay_none {s : State} (h : s.disp.underWay = none) : s.takeUnderWay = s := by
  simp [State.takeUnderWay, h]

theorem takeUnderWay_some {s : State} {r : Request} (h : s.disp.underWay = some r) :
    s.takeUnderWay = (s.setDisp { s.disp with underWay := none }).takeRequest r := by
  simp [State.takeUnderWay, h]

theorem passOn_now {s : State} (r : Request) (h : Config.freeChoice s.choices % 2 = 0) :
    s.passOn r = (s.useChoices 1).takeRequest r := by
  simp [State.passOn, h]

theorem passOn_later {s : State} (r : Request) (h : ¬Config.freeChoice s.choices % 2 = 0) :
    s.passOn r = (s.useChoices 1).leaveUnderWay r := by
  simp [State.passOn, h]

theorem passOn_cases (s : State) (r : Request) :
    s.passOn r = (s.useChoices 1).takeRequest r ∨ s.passOn r = (s.useChoices 1).leaveUnderWay r := by
  by_cases h : Config.freeChoice s.choices % 2 = 0
  · exact Or.inl (passOn_now r h)
  · exact Or.inr (passOn_later r h)

section Request

variable (s : State) (c : Cause)

theorem request_drive (p : DriveParams) : s.request (.drive p) c = s.drive p c := rfl

theorem request_cancel (tag : BitVec 4) : s.request (.cancel tag) c = s.cancel tag := rfl

theorem request_latch (src : PosSource) (slot : Fin 8) (d : Option EventDesc) :
    s.request (.latch src slot d) c = s.latchRequest c (s.pos.read src) s.time.lineTime src slot d := rfl

theorem request_capture : s.request .capture c = s.captureRequest c := rfl

theorem request_compare (k : Fin 2) :
    s.request (.compare k) c =
      s.compareRequest c (s.pos.read s.meas.cmpCfg[k.val].source) s.time.lineTime k := rfl

theorem request_measure (channel : Fin 8) (k : EdgeSelect) (i : BitVec 4) (slot : Fin 8) :
    s.request (.measure channel k i slot) c =
      s.measureRequest c (selectEdge s.chans[channel.val].fifo k i.toNat) slot := rfl

theorem request_preset (v : Value32) : s.request (.preset v) c = s.presetPos v := rfl

end Request

/-! ### What a request does to the dispatcher (R17)

The taking of a request changes nothing of the dispatcher but its queue: the tables, the armed flags, the
current occurrence, the scan and a request under way stay. -/

/-- The dispatcher of `t` is that of `s` but for its queue. -/
def QueueOnly (s t : State) : Prop := t.disp = { s.disp with queue := t.disp.queue }

theorem QueueOnly.of_eq {s t : State} (h : t.disp = s.disp) : QueueOnly s t := by
  simp [QueueOnly, h]

theorem QueueOnly.trans {s t u : State} (h : QueueOnly s t) (h' : QueueOnly t u) : QueueOnly s u := by
  unfold QueueOnly at *
  rw [h', h]

section QueueOnly

variable (s : State)

theorem arrive_queueOnly (o : Occurrence) : QueueOnly s (s.arrive o) := by
  unfold State.arrive
  (repeat' split)
  · exact .of_eq rfl
  · rfl
  · exact .of_eq (by simp)

theorem raise_queueOnly (c : Scope) (p : Priority) (o : Occurrence) : QueueOnly s (s.raise c p o) := by
  cases c
  · exact arrive_queueOnly s o
  · exact .of_eq (by simp [State.raise])

theorem derive_queueOnly (g : Generation) (e : Fin 64) (d : EventDesc) (o : Occurrence) :
    QueueOnly s (s.derive g e d o) := by
  unfold State.derive
  (repeat' split)
  · exact .of_eq rfl
  · exact .of_eq (by simp)
  · exact raise_queueOnly ..

theorem fireDerived_queueOnly (r : Fin 32) (c : Cause) (t : LineTime) (v : Option Value32) (m : Bool) :
    QueueOnly s (s.fireDerived r c t v m) := by
  simp only [State.fireDerived]
  split
  · exact derive_queueOnly ..
  · exact .of_eq rfl

theorem expireEntry_queueOnly (e : SchedEntry) : QueueOnly s (s.expireEntry e) := by
  simp only [State.expireEntry, State.afterExpiry, State.repetition, State.endEvent]
  (repeat' split) <;>
    first
    | exact .of_eq (by simp)
    | exact .trans (.of_eq (t := s.applyPhase e) (by simp)) (derive_queueOnly ..)

theorem scheduleExpiry_queueOnly : QueueOnly s s.scheduleExpiry := by
  unfold State.scheduleExpiry
  split
  · exact .of_eq rfl
  · exact .trans (.of_eq rfl) (expireEntry_queueOnly ..)

theorem drive_queueOnly (p : DriveParams) (c : Cause) : QueueOnly s (s.drive p c) := by
  unfold State.drive
  (repeat' split)
  · exact .of_eq rfl
  · exact .of_eq (by simp)
  · exact .of_eq (by simp)
  · exact .trans (.of_eq (by simp)) (expireEntry_queueOnly ..)

theorem expireBefore_queueOnly (tag : BitVec 4) (n : Nat) (left : List SchedEntry) :
    QueueOnly s (State.expireBefore tag n left s) := by
  induction n generalizing s left with
  | zero => exact .of_eq (by simp [State.expireBefore])
  | succ n ih =>
    simp only [State.expireBefore]
    (repeat' split)
    · exact .of_eq (by simp)
    · exact .of_eq (by simp)
    · exact .of_eq (by simp)
    · exact .trans (.of_eq (by simp)) (ih ..)
    · exact .trans (.of_eq (by simp)) (.trans (scheduleExpiry_queueOnly (s.useChoices 1)) (ih ..))

theorem cancel_queueOnly (tag : BitVec 4) : QueueOnly s (s.cancel tag) := by
  unfold State.cancel
  split
  · exact .of_eq rfl
  · exact .trans (expireBefore_queueOnly s tag Config.cancelLookahead []) (.of_eq (by simp))

theorem latchRequest_queueOnly (c : Cause) (v : Value32) (t : LineTime) (p : PosSource) (i : Fin 8)
    (d : Option EventDesc) : QueueOnly s (s.latchRequest c v t p i d) := by
  simp only [State.latchRequest]
  split
  · exact .of_eq (by simp)
  · exact .trans (.of_eq (by simp)) (derive_queueOnly ..)

theorem compareRequest_queueOnly (c : Cause) (v : Value32) (t : LineTime) (k : Fin 2) :
    QueueOnly s (s.compareRequest c v t k) := by
  simp only [State.compareRequest, State.forwardBranch]
  (repeat' split)
  · exact .of_eq rfl
  · exact .trans (.of_eq (by simp)) (fireDerived_queueOnly ..)
  · exact .of_eq (by simp)

theorem takeRequest_queueOnly (r : Request) : QueueOnly s (s.takeRequest r) := by
  unfold State.takeRequest
  split
  · exact drive_queueOnly ..
  · exact cancel_queueOnly ..
  · exact latchRequest_queueOnly ..
  · exact .of_eq (by simp)
  · exact compareRequest_queueOnly ..
  · exact .of_eq (by simp)
  · exact .of_eq (by simp)

/-- The taking of the request under way ends its being under way and changes no table of the dispatcher. -/
theorem takeUnderWay_disp :
    s.takeUnderWay.disp = { s.disp with underWay := none, queue := s.takeUnderWay.disp.queue } := by
  unfold State.takeUnderWay
  split
  · exact takeRequest_queueOnly _ _
  · rename_i h
    simp [← h]

end QueueOnly

/-! ### Line time and the line engine (R107, R119) -/

theorem passTicks_eq (l : LineEngine) (n : Int) :
    l.passTicks n = { l with stuckFor := if l.stuck then l.stuckFor + n else l.stuckFor } := by
  unfold LineEngine.passTicks
  split
  · simp_all
  · cases l
    simp_all

/-! ### The examination of an entry (R15) -/

/-- The examination of an entry that matches, no request being under way. -/
theorem entryExamined_acts {s : State} {o : Occurrence} {i : Fin 64} (hc : s.disp.current = some o)
    (hp : s.disp.scanPos = i.val) (hu : s.disp.underWay = none)
    (hm : s.disp.subs[i.val].matchesOcc o = true) :
    s.entryExamined =
      ((s.disarmOnce i).passOn (s.handOn s.disp.subs[i.val].action (o.causeFor i))).advanceScan := by
  simp [State.entryExamined, hc, hp, ixOf_val, takeUnderWay_none hu, State.examine, hm]

/-! ### The host port's transaction (R181) -/

theorem readsAt_iff (h : HostUnit) (a : BitVec 7) :
    h.readsAt a = true ↔ h.transaction = some { dir := .read, next := a } := by
  simp [HostUnit.readsAt]

theorem readsOnToByte7_iff (h : HostUnit) :
    h.readsOnToByte7 = true ↔
      ∃ a : BitVec 7, h.transaction = some { dir := .read, next := a } ∧ 0x19 ≤ a.toNat ∧
        a.toNat ≤ 0x20 := by
  unfold HostUnit.readsOnToByte7
  rcases h.transaction with _ | ⟨d, a⟩
  · simp
  · cases d <;> simp

/-! ### The sampling of a bit (R109) -/

theorem sampleNow_middle {s : State} {b k : Nat} (hb : s.station.cfg.bitTicks = some b)
    (h : s.line.txClock = some (b * k + b / 2)) : s.sampleNow = some k := by
  have pos : 0 < b := by
    unfold StationConfig.bitTicks at hb
    split at hb
    · cases hb; decide
    · split at hb
      · cases hb; decide
      · split at hb
        · cases hb; decide
        · simp at hb
  have half : b / 2 < b := Nat.div_lt_self pos (by decide)
  have m : (b * k + b / 2) % b = b / 2 := by
    rw [Nat.mul_add_mod, Nat.mod_eq_of_lt half]
  have d : (b * k + b / 2) / b = k := by
    rw [Nat.mul_add_div pos, Nat.div_eq_of_lt half, Nat.add_zero]
  simp [State.sampleNow, h, hb, m, d]

/-! ### The events that are due (log 2) -/

theorem mem_whenDue {due : Bool} {i j : Instr} : j ∈ whenDue due i ↔ due = true ∧ j = i := by
  unfold whenDue
  split <;> simp_all

theorem readDue_mem {s : State} (h : s.readDue = true) :
    Instr.encoderReadComplete s.pos.shiftWord ∈ s.dueEvents := by
  simp [State.dueEvents, mem_whenDue, h]

end Sys2Proof.Machine
end

