-- ==== Sys2Proof/Laws/Staging.lean ====
section
/-! SUPPORT. The staging area of the table window, the one addressed buffer of the part: what a byte
reads as after a write and after a load. -/

namespace Sys2Proof.Machine

theorem stByte_write (v : Vector Byte 48) (i : Nat) (b : Byte) (j : Nat) (h : i < 48) :
    stByte (v.setIfInBounds i b) j = if i = j then b else stByte v j := by
  unfold stByte
  rw [Vector.getElem?_setIfInBounds]
  split <;> simp_all

theorem stByte_write_self (v : Vector Byte 48) (i : Nat) (b : Byte) (h : i < 48) :
    stByte (v.setIfInBounds i b) i = b := by
  simp [stByte_write, h]

theorem stByte_write_other (v : Vector Byte 48) (i j : Nat) (b : Byte) (hne : i ≠ j) :
    stByte (v.setIfInBounds i b) j = stByte v j := by
  unfold stByte
  rw [Vector.getElem?_setIfInBounds]
  simp [hne]

theorem stByte_load (l : List Byte) (i : Nat) (h : i < 48) :
    stByte (stagingOf l) i = l[i]?.getD 0 := by
  unfold stByte stagingOf
  simp only [Vector.getElem?_mk, List.getElem?_toArray, List.getElem?_take, h, if_true]
  rw [List.getElem?_append]
  split
  · rfl
  · rename_i hl
    rw [List.getElem?_replicate]
    split <;> simp [List.getElem?_eq_none (Nat.le_of_not_lt hl)]

theorem stByte_beyond (v : Vector Byte 48) (i : Nat) (h : 48 ≤ i) : stByte v i = 0 := by
  unfold stByte
  simp [Vector.getElem?_eq_none h]

theorem stagingOffset_lt (s : State) (offset : Nat) (h : offset < 24) :
    s.stagingOffset offset < 48 := by
  unfold State.stagingOffset
  split <;> omega

end Sys2Proof.Machine
end

