-- ==== Sys2Proof/WellFormed.lean ====
section
/-! DEFINITION. Which operands name something the part has. A command whose operand names nothing
(a channel 8, a data offset 24) reaches nothing: its meaning leaves the state as it is. -/

namespace Sys2Proof

/-- The operand ranges of the rules: eight channels (R137), 24 bytes of table data (R182), sixteen
data bits in bytes 0 and 1 (R114), frames of at most 16 bytes (R193), 8 to 33 samples (R153,
R160), and EDAT as pin 8 (log 13). -/
def Instr.wellFormed : Instr → Bool
  | .join | .leave | .restart | .rearmSub | .rearmCmp | .restore | .inject => true
  | .store _ | .tableIndex _ => true
  | .tableData offset _ => offset < 24
  | .timeSnapshot | .reportWindow | .reportHeadRemove => true
  | .registerWrite _ _ | .hardwareReset _ => true
  | .gap _ | .startEdge _ | .frameEnd _ | .lineStuck _ => true
  | .attemptBegin => true
  | .arbitrationLost dataBit => dataBit < 16
  | .arbitrationWon => true
  | .bitError sample => sample < 160
  | .attemptComplete | .leaveNoticePlaced => true
  | .syncRound | .listenWindowExpiry | .leaveTimeout => true
  | .dispatchStart | .entryExamined | .dispatchComplete | .scheduleExpiry => true
  | .pinTransition pin _ => pin < 9
  | .edgeCounted channel | .readbackFault channel | .holdOffExpiry channel => channel < 8
  | .encoderReadComplete samples => 8 ≤ samples.length && samples.length ≤ 33
  | .recoveryExpiry | .transactionEnd => true

end Sys2Proof
end

