-- ==== Sys2Proof/Tests/Slice0.lean ====
section
/-! SUPPORT. The model's own tests: operands out of range are refused by the well-formedness check, the
examples of the manual come out as it says, and for every obligation with hypotheses a state and operands
that meet them, clause by clause. -/

namespace Sys2Proof.Tests

open Sys2Proof.Machine

set_option Elab.async false

/-! ### Helpers -/

/-- The state after a command; every command answers a next state. -/
def after (c : Instr) (s : State) : State :=
  match exec c s with
  | .next t => t
  | .fault _ => s
  | .refused _ => s

/-- The state after commands, one after the other. -/
def run (l : List Instr) (s : State) : State := l.foldl (fun s c => after c s) s

/-- The reset state in a station state. -/
def at' (m : StationMode) : State :=
  { State.reset with station := { State.reset.station with mode := m } }

/-- An ACTIVE station with its sync timer running. -/
def active : State := { at' .active with time := { TimeUnit.reset with syncTimer := some 1000000 } }

/-- A station in LISTEN whose listen timer has run out. -/
def listenEnd : State :=
  { at' .listen with station := { (at' .listen).station with listenTimer := some 0 } }

/-- A station in a state with the line engine's fields changed. -/
def withLine (s : State) (f : LineEngine → LineEngine) : State := { s with line := f s.line }

/-- Command parameter bytes. -/
def withParams (s : State) (l : Vector Byte 8) : State := { s with host := { s.host with params := l } }

/-- A staging area, a table and an index. -/
def staged (s : State) (table index : Byte) (l : List Byte) : State :=
  { s with
    host := { s.host with tableSelect := table, tableIndex := index, staging := stagingOf l } }

/-- A channel changed. -/
def withChan (s : State) (c : Fin 8) (f : Channel → Channel) : State :=
  { s with chans := updVec s.chans c f }

/-- A characters' row as read without a framing error. -/
def chars (l : List Byte) : List CharSample :=
  l.map fun b => { start := false, data := b, stop := true }

/-- An occurrence from the host port. -/
def occ (e : EventNo) (stamp : LineTime) (o : Origin) : Occurrence :=
  { event := e, stamp := stamp, origin := o, gen := 0, payload := none, restamped := false }

/-- A cause. -/
def cause (e : EventNo) (stamp : LineTime) (gen : Generation) (i : Fin 64) : Cause :=
  { event := e, stamp := stamp, payload := none, gen := gen, restamped := false, entry := i }

/-- A notice of an event. -/
def note (e : EventNo) (p : Priority) (errored : Nat) (inTx : Bool) : Notice :=
  { body := .event (occ e 0 (.row 0)), priority := p, errored := errored, inTx := inTx }

/-- The own SYNC. -/
def syncNote (errored : Nat) (inTx : Bool) : Notice :=
  { body := .sync, priority := 0, errored := errored, inTx := inTx }

/-- The LEAVE notice. -/
def leaveNote (errored : Nat) (inTx : Bool) : Notice :=
  { body := .leave 0, priority := 7, errored := errored, inTx := inTx }

/-- The bodies of the report queue. -/
def bodies (s : State) : List ReportBody := s.host.reports.map fun r => r.body

/-- A peer record. -/
def peer (n : StationNo) (off : PeerOffset) (synced : Bool) (age : Nat) : PeerRecord :=
  { station := n, stamp := 5000, seq := 7, offset := off, synced := synced, age := age }

/-- A full peer time table whose records have an age. -/
def fullTable (age : Nat) : List PeerRecord :=
  (List.range 24).map fun n => peer (BitVec.ofNat 6 n) .absent true age

/-! ### Well-formedness -/

theorem test_tableData_23_well_formed : (Instr.tableData 23 0).wellFormed = true := by decide
theorem test_tableData_24_ill_formed : (Instr.tableData 24 0).wellFormed = false := by decide
theorem test_arbitrationLost_16_ill_formed : (Instr.arbitrationLost 16).wellFormed = false := by decide
theorem test_bitError_160_ill_formed : (Instr.bitError 160).wellFormed = false := by decide
theorem test_pinTransition_8_well_formed : (Instr.pinTransition 8 true).wellFormed = true := by decide
theorem test_pinTransition_9_ill_formed : (Instr.pinTransition 9 true).wellFormed = false := by decide
theorem test_edgeCounted_8_ill_formed : (Instr.edgeCounted 8).wellFormed = false := by decide
theorem test_readbackFault_8_ill_formed : (Instr.readbackFault 8).wellFormed = false := by decide
theorem test_holdOffExpiry_8_ill_formed : (Instr.holdOffExpiry 8).wellFormed = false := by decide
theorem test_no_samples_ill_formed : (Instr.encoderReadComplete []).wellFormed = false := by decide
theorem test_34_samples_ill_formed :
    (Instr.encoderReadComplete (List.replicate 34 true)).wellFormed = false := by decide
theorem test_no_word_spells_a_command : decodeTableWord 8 1 = none := by decide

/-! ### The machine -/

theorem test_front_command_runs :
    let s := { active with pending := [.store 0, .join] }
    s.pending = .store 0 :: [.join] ∧ (after (.store 0) { s with pending := [.join] }).pending = [.join] := by
  decide +kernel

theorem test_empty_queue_clauses :
    State.reset.pending = [] ∧ (after (.hardwareReset .assert) State.reset).resetHeld = true ∧
      listenEnd.dueEvents = [.listenWindowExpiry] ∧ listenEnd.resetHeld = false ∧
      State.reset.dueEvents = [] ∧ State.reset.scanDue = false ∧
      (let s := { active with disp := { active.disp with current := some (occ 1 0 .hostPort) } }
       s.dueEvents = [] ∧ s.scanDue = true) := by
  decide +kernel

theorem test_slew_spread :
    (List.range 10).map (slewStep (-3) 10) = [0, 0, 0, -1, 0, 0, -1, 0, 0, -1] ∧
      (List.range 3).map (slewStep 3 3) = [1, 1, 1] ∧ (List.range 1).map (slewStep 500 1) = [500] := by
  decide +kernel

theorem test_tick_counts_line_time :
    (active.tick).time.lineTime = 1 ∧ (active.tick).time.syncTimer = some 999999 ∧
      State.reset.time.syncTimer = none ∧ State.reset.time.slew = 0 ∧
      ((at' .leaving).tick).station.leaveTimer = none := by
  decide +kernel

theorem test_held_in_reset :
    let s := after (.hardwareReset .assert) (withChan active 0 fun c => { c with sensed := true })
    s.resetHeld = true ∧ after .join s = s ∧ s.chans[0].filtered = true ∧ s.pos.pair0 = true ∧
      (after (.pinTransition 7 true) s).chans[7].filtered = true ∧ s.eclk = none := by
  decide +kernel

/-! ### The station's life -/

/-- The station configuration at the upper bounds of JOIN's checks. -/
def widest : State :=
  let s := at' .config
  { s with
    station :=
      { s.station with
        cfg :=
          { station := 63, syncBase := 2, syncMult := 63, limitL := 4095, limitS := 4095, lineRate := 2,
            lineDelay := 255 } }
    pos := { s.pos with cfg := { s.pos.cfg with mode := .quadrature } } }

theorem test_join_taken_at_bounds :
    (after .join widest).station.mode = .listen ∧
      (after .join widest).station.listenTimer = some 302400000 ∧
      bodies (after .join widest) = [.stateChange .listen .join] ∧
      (let s := at' .config
       let t :=
         { s with
           station :=
             { s.station with
               cfg := { s.station.cfg with syncMult := 1, limitL := 1, limitS := 1 } } }
       (after .join t).station.mode = .listen) := by
  decide +kernel

/-- A station configuration changed in the widest. -/
def joining (f : StationConfig → StationConfig) : State :=
  { widest with station := { widest.station with cfg := f widest.station.cfg } }

theorem test_join_checks_fail :
    (after .join (joining fun g => { g with station := 64 })).host.errorCode = .joinStation ∧
      (after .join (joining fun g => { g with syncBase := 3 })).host.errorCode = .joinSync ∧
      (after .join (joining fun g => { g with syncMult := 0 })).host.errorCode = .joinSync ∧
      (after .join (joining fun g => { g with syncMult := 64 })).host.errorCode = .joinSync ∧
      (after .join (joining fun g => { g with limitS := 0 })).host.errorCode = .joinLimits ∧
      (after .join (joining fun g => { g with limitS := 4096 })).host.errorCode = .joinLimits ∧
      (after .join (joining fun g => { g with limitL := 4094 })).host.errorCode = .joinLimits ∧
      (after .join (joining fun g => { g with lineRate := 3 })).host.errorCode = .joinRate ∧
      (after .join
            (withChan widest 1 fun c =>
              { c with cfg := { c.cfg with direction := .output } })).host.errorCode =
        .joinPosition := by
  decide +kernel

theorem test_commands_refused :
    (after .join (at' .listen)).host.status = { source := 1, outcome := .refused, detail := 1 } ∧
      (after .leave (at' .config)).host.status = { source := 2, outcome := .refused, detail := 0 } ∧
      (after .leave (at' .leaving)).host.status = { source := 2, outcome := .refused, detail := 4 } ∧
      (after .rearmSub (at' .config)).host.status.outcome = .refused ∧
      (after .rearmCmp (at' .listen)).host.status.outcome = .refused ∧
      (after .inject (at' .leaving)).host.status.outcome = .refused := by
  decide +kernel

theorem test_bad_parameters :
    (after .rearmSub (withParams active #v[64, 0, 0, 0, 0, 0, 0, 0])).host.status.outcome =
        .badParameter ∧
      (after .rearmCmp (withParams active #v[2, 0, 0, 0, 0, 0, 0, 0])).host.status.outcome =
        .badParameter ∧
      (after .restore (withParams active #v[8, 0, 0, 0, 0, 0, 0, 0])).host.status.outcome =
        .badParameter ∧
      (after .inject (withParams active #v[0, 0, 0, 0, 0, 0, 0, 0])).host.status.outcome =
        .badParameter ∧
      (after .inject (withParams active #v[0, 16, 0, 0, 0, 0, 0, 0])).host.status.outcome =
        .badParameter ∧
      (after .inject (withParams active #v[5, 0, 1, 0, 0, 0, 0, 0])).host.status.outcome =
        .badParameter ∧
      (after (.registerWrite 0x28 (some 0)) active).host.status.outcome = .badParameter ∧
      (after (.registerWrite 0x28 (some 8)) active).host.status.outcome = .badParameter := by
  decide +kernel

/-- An ACTIVE station with an output driven high, a schedule entry's worth of occurrences and a SYNC. -/
def busy : State :=
  let s := withLine active fun l => { l with rx := .seeking, txq := [syncNote 0 false, note 5 3 0 false] }
  let t := { s with disp := { s.disp with queue := [occ 5 0 .hostPort] } }
  withChan t 2 fun c =>
    { c with cfg := { c.cfg with direction := .output }, out := some .enabled, lastCmd := true,
             sensed := true }

theorem test_leave_taken :
    (after .leave busy).station.mode = .leaving ∧
      (after .leave busy).station.leaveTimer = some 4000000 ∧
      (after .leave busy).line.txq = [note 5 3 0 false] ∧ (after .leave busy).disp.queue = [] ∧
      (after .leave busy).chans[2].lastCmd = false ∧
      (after .leave busy).chans[2].mismatch = some 2000 ∧
      bodies (after .leave busy) = [.scheduleFlushed 0, .stateChange .leaving .leave] ∧
      (after .leave (at' .listen)).station.mode = .leaving ∧
      (after .leave (at' .drifted)).station.mode = .leaving := by
  decide +kernel

/-- A reader in SHIFTING. -/
def shifting (g : EncConfig) (left : Nat) (gen : Generation) : State :=
  { active with
    pos :=
      { active.pos with
        reader := .shifting, record := some { enc := g, start := 700, cause := cause 9 600 gen 4 }
        shiftLeft := some left } }

/-- The end of SHIFTING with a shift word. -/
def shifted (g : EncConfig) (word : List Level) : State :=
  { shifting g 0 0 with pos := { (shifting g 0 0).pos with shiftWord := word } }

theorem test_restart_taken :
    (after .restart busy).station.mode = .config ∧ (after .restart busy).line.txq = [] ∧
      (after .restart busy).chans[2].lastCmd = false ∧
      (after .restart (shifting .reset 9 0)).pos.reader = .recovery ∧
      (after .restart (shifting .reset 9 0)).pos.recovery = some 3000 ∧
      bodies (after .restart busy) = [.scheduleFlushed 0, .stateChange .config .restart] := by
  decide +kernel

theorem test_rearm_sub_63 :
    let s := withParams active #v[63, 0, 0, 0, 0, 0, 0, 0]
    let t :=
      { s with
        disp :=
          { s.disp with subs := updVec s.disp.subs 63 fun e => { e with policy := .once, armed := false } } }
    (after .rearmSub t).disp.subs[63].armed = true ∧ (after .rearmSub t).host.status.source = 4 := by
  decide +kernel

theorem test_rearm_cmp_1 :
    let s := withParams active #v[1, 0, 0, 0, 0, 0, 0, 0]
    let t :=
      { s with
        meas :=
          { s.meas with cmpRun := updVec s.meas.cmpRun 1 fun _ => { last := some true, spent := true } } }
    (after .rearmCmp t).meas.cmpRun[1] = { last := none, spent := false } := by
  decide +kernel

/-- An output channel 7 in an output state, named by the parameter bytes. -/
def output7 (o : OutState) : State :=
  withChan (withParams (at' .config) #v[7, 0, 0, 0, 0, 0, 0, 0]) 7 fun c =>
    { c with cfg := { c.cfg with direction := .output, rest := true }, out := some o, lastCmd := true }

theorem test_restore :
    (after .restore (output7 .disabled)).chans[7].out = some .enabled ∧
      (after .restore (output7 .disabled)).chans[7].mismatch = some 2000 ∧
      bodies (after .restore (output7 .disabled)) = [.outputRestored 7 .host] ∧
      (after .restore (output7 .enabled)).host.status.detail = 8 ∧
      (after .restore (output7 .heldOff)).host.status.detail = 9 ∧
      (after .restore (withParams active #v[7, 0, 0, 0, 0, 0, 0, 0])).host.status.detail = 10 := by
  decide +kernel

/-- INJECT of event 4095 with scope LINE and priority 7, or with scope LOCAL. -/
def injecting (scope : Byte) : State := withParams active #v[0xFF, 0x0F, scope, 1, 4, 3, 2, 1]

theorem test_inject :
    (after .inject (injecting 0)).disp.queue =
        [{ occ 0xFFF 0 .hostPort with payload := some 0x01020304 }] ∧
      (after .inject (injecting 0x71)).line.txq.map (fun n => n.priority) = [7] ∧
      (let s := injecting 0
       bodies
           (after .inject
             { s with disp := { s.disp with queue := List.replicate 8 (occ 1 0 .hostPort) } }) =
         [.dispatchOverflow 0xFFF .hostPort]) ∧
      bodies
          (after .inject
            (withLine (injecting 0x71) fun l => { l with txq := List.replicate 15 (note 1 1 0 false) })) =
        [.eventLost 0xFFF .queueFull] := by
  decide +kernel

/-! ### The table window -/

theorem test_store_station :
    (after (.store 9) (staged (at' .config) 0 0 [63, 1, 5, 0xD0, 7, 0xF4, 1, 2, 90])).station.cfg =
      { station := 63, syncBase := 1, syncMult := 5, limitL := 2000, limitS := 500, lineRate := 2,
        lineDelay := 90 } := by
  decide +kernel

theorem test_store_binding :
    (after (.store 0) (staged (at' .config) 1 31 [0xFF, 0x0F, 1, 7, 1])).disp.bindings[31] =
        { event := 0xFFF, scope := .line, priority := 7, payloadFlag := true } ∧
      (after (.store 0) (staged (at' .config) 1 0 [0, 0x10, 0, 1, 0])).host.errorCode = .bindEvent ∧
      (after (.store 0) (staged (at' .config) 1 0 [1, 0, 1, 8, 0])).host.errorCode = .bindPriority ∧
      (after (.store 0) (staged (at' .config) 1 23 [1, 0, 0, 0, 1])).host.errorCode = .bindPayload := by
  decide +kernel

/-- The staged DRIVE of the manual's example "storing entries" with its inner and outer spacing. -/
def trainEntry (inner outerCount outer : BitVec 32) : List Byte :=
  [50, 0, 0, 0, 0, 0, 0, 0, 1, 1] ++ leBytes 4 (5000 : BitVec 32) ++ leBytes 4 (0 : BitVec 32) ++
    [4, outerCount.setWidth 8] ++ leBytes 4 inner ++ leBytes 4 outer ++ [0, 0, 0, 0]

theorem test_store_train_example :
    checkSub (stagingOf (trainEntry 4000 1 0)) = .error .driveWidth ∧
      checkSub (stagingOf (trainEntry 10000 3 35000)) = .error .driveOuter ∧
      (∃ e, checkSub (stagingOf (trainEntry 10000 3 40000)) = .ok e ∧
        (after (.store 0) (staged (at' .config) 2 0 (trainEntry 10000 3 40000))).disp.subs[0] = e) := by
  refine ⟨by decide +kernel, by decide +kernel,
    (after (.store 0) (staged (at' .config) 2 0 (trainEntry 10000 3 40000))).disp.subs[0], ?_, rfl⟩
  decide +kernel

theorem test_store_entry_refusals :
    (after (.store 0) (staged (at' .config) 2 1 [50, 0, 3, 70, 0, 3])).host.errorCode = .subFilter ∧
      checkSub (stagingOf ([50, 0, 1, 0, 1, 0] ++ List.replicate 12 0 ++ [1, 1])) =
        .error .driveNothing ∧
      checkSub (stagingOf [0, 0, 9, 9, 9, 9]) = .ok .empty ∧
      checkSub (stagingOf [51, 0, 0, 0, 0, 2, 0, 0, 0, 9, 1, 0x88, 0x13]) = .error .subRange ∧
      checkSub (stagingOf [51, 0, 0, 0, 0, 2, 0, 0, 0, 7, 1, 0x88, 0x13]) = .error .subEndEvent := by
  decide +kernel

theorem test_store_comparator :
    (after (.store 0)
            (staged (at' .config) 3 1
              ([0, 2, 12, 0] ++ leBytes 4 (3900 : BitVec 32) ++ leBytes 4 (300 : BitVec 32) ++
                [2, 0xFF]))).meas.cmpCfg[1] =
        { source := .incremental, origin := 3900, margin := 300, maskBits := 12, strict := false,
          mode := .change, trueSlot := some 2, falseSlot := none } ∧
      (after (.store 0) (staged (at' .config) 3 0 [0, 2, 33])).host.errorCode = .cmpRange := by
  decide +kernel

theorem test_store_channel_to_output :
    (after (.store 0) (staged (at' .config) 4 7 [1, 63, 1, 1, 1, 1])).chans[7].out = some .enabled ∧
      (after (.store 0) (staged (at' .config) 4 7 [1, 63, 1, 1, 1, 1])).chans[7].mismatch = some 100 ∧
      (after (.store 0) (staged (at' .config) 4 0 [0, 64, 0, 1, 1, 0])).host.errorCode = .chanRange ∧
      (after (.store 0) (staged (output7 .heldOff) 4 7 [0, 0, 0, 1, 1, 0])).chans[7].out = none ∧
      (after (.store 0) (staged (output7 .heldOff) 4 7 [1, 0, 0, 1, 1, 0])).chans[7].lastCmd = false ∧
      (after (.store 0) (staged (at' .config) 4 7 [0, 3, 0, 1, 1, 0])).chans[7].cfg.filterMicros = 3 := by
  decide +kernel

theorem test_store_position :
    let s := { at' .config with pos := { (at' .config).pos with cntA := 9 } }
    (after (.store 0) (staged s 5 0 [2, 0xFF, 1, 32, 32, 1, 3, 255, 2])).pos.cntA = 0 ∧
      (after (.store 0) (staged s 5 0 [0, 0xFF, 1, 8, 1, 1, 3, 255, 2])).pos.cntA = 9 ∧
      (after (.store 0) (staged s 5 0 [0, 0xFF, 1, 7, 1, 1, 3, 255, 2])).host.errorCode = .posRange := by
  decide +kernel

theorem test_store_refused :
    (after (.store 0) (staged active 0 0 [])).host.status =
        { source := 0x40, outcome := .accessRefused, detail := 0x2B } ∧
      (after (.store 0) (staged (at' .config) 6 0 [])).host.status.outcome = .accessRefused ∧
      (after (.store 0) (staged (at' .config) 0 1 [])).host.errorCode = .tableIndex ∧
      (after (.store 0) (staged (at' .config) 1 32 [])).host.errorCode = .tableIndex ∧
      (after (.store 0) (staged (at' .config) 2 64 [])).host.errorCode = .tableIndex ∧
      (after (.store 0) (staged (at' .config) 3 2 [])).host.errorCode = .tableIndex ∧
      (after (.store 0) (staged (at' .config) 4 8 [])).host.errorCode = .tableIndex ∧
      (after (.store 0) (staged (at' .config) 5 1 [])).host.errorCode = .tableIndex := by
  decide +kernel

theorem test_table_data :
    stByte (after (.tableData 23 7) (staged (at' .config) 5 0 [])).host.staging 23 = 7 ∧
      stByte (after (.tableData 23 7) (staged (at' .config) 0x85 0 [])).host.staging 47 = 7 ∧
      (after (.tableData 0 7) (staged (at' .config) 6 0 [])).host.status.detail = 0x30 ∧
      (after (.tableData 23 7) active).host.status.detail = 0x47 := by
  decide +kernel

theorem test_table_index :
    stByte (after (.tableIndex 0) (staged active 0 0 [])).host.staging 2 = 10 ∧
      (let s := staged active 8 0 []
       let t :=
         { s with
           meas :=
             { s.meas with
               latches := updVec s.meas.latches 7 fun l => { l with isNew := true, overrun := true } } }
       (after (.tableIndex 7) t).meas.latches[7].isNew = false ∧
         (after (.tableIndex 8) t).meas.latches[7].isNew = true) := by
  decide +kernel

/-! ### The other accesses of the host port -/

/-- A reset part with one report. -/
def reported : State := { State.reset with host := { HostUnit.reset with reports := [⟨.lineStuck, 3⟩] } }

theorem test_host_reads :
    (after .timeSnapshot active).host.sdo = some 0 ∧ reported.intnAsserted = true ∧
      (after .reportWindow reported).host.captureLive = true ∧
      (run [.reportWindow, .reportHeadRemove] reported).host.reports = [] ∧
      (run [.reportWindow, .transactionEnd, .reportHeadRemove] reported).host.reports.length = 1 ∧
      (after .reportWindow State.reset).host.sdo = some 0 := by
  decide +kernel

theorem test_transactions :
    let begun := after (.registerWrite 0xFF none) active
    let wrapped := after (.registerWrite 0xFF (some 0)) begun
    begun.host.transaction = some { dir := .read, next := 127 } ∧ begun.host.sdo = some 0 ∧
      wrapped.host.transaction = some { dir := .read, next := 0 } ∧
      (after (.registerWrite 0x80 (some 0)) wrapped).host.sdo = some 0x12 ∧
      (after (.registerWrite 0x7F (some 9)) active).host.transaction =
        some { dir := .write, next := 0 } ∧
      (after .transactionEnd begun).host.transaction = none ∧
      (after .transactionEnd begun).host.sdo = none := by
  decide +kernel

/-- A read of the report window to byte 7, then of the byte behind it. -/
theorem test_report_window_read_whole :
    let reads := (List.range 9).map fun i => Instr.registerWrite (0x98 + BitVec.ofNat 8 i) (some 0)
    let cut := (reads.take 7) ++ [Instr.registerWrite 0x80 none] ++ reads.drop 7
    (run (reads.take 8) reported).host.reports.length = 1 ∧
      (run reads reported).host.reports = [] ∧ (run cut reported).host.reports.length = 1 ∧
      (run (reads.take 7 ++ [.reportHeadRemove]) reported).host.reports = [] := by
  decide +kernel

theorem test_report_bytes :
    (({ body := .cancelled 5 63 4 3 2, time := 0x0504030201 } : Report).bytes =
        #v[0xA6, 3, 4, 5, 63, 4, 3, 2]) ∧
      (({ body := .dispatchOverflow 0xABC (.station 63), time := 0 } : Report).bytes =
        #v[2, 0, 0, 0x7F, 0xBC, 0x0A, 0, 0]) := by
  decide +kernel

theorem test_report_queue_overflow :
    (pushReport (List.replicate 30 ⟨.lineStuck, 3⟩) ⟨.lineStuck, 3⟩).length = 31 ∧
      (pushReport (List.replicate 31 ⟨.lineStuck, 3⟩) ⟨.lineStuck, 4⟩)[31]? =
        some ⟨.queueOverflow 1 (ReportBody.lineStuck).code true, 4⟩ ∧
      pushReport [⟨.queueOverflow 255 1 true, 4⟩] ⟨.lineStuck, 5⟩ =
        [⟨.queueOverflow 255 1 true, 4⟩] := by
  decide +kernel

theorem test_register_writes :
    (after (.registerWrite 0x27 (some 5)) active).host.params[7] = 5 ∧
      (after (.registerWrite 0x29 (some 0x85)) active).host.tableSelect = 0x85 ∧
      (after (.registerWrite 0x0E (some 5)) active).host.status.detail = 0x0E ∧
      (after (.registerWrite 0x1F (some 5)) active).host.status.detail = 0x1F ∧
      (after (.registerWrite 0x0F (some 5)) active).host.status.outcome = .none ∧
      (after (.registerWrite 0x7F (some 5)) active).host.status.outcome = .none ∧
      after (.registerWrite 0x28 (some 2)) active = after .leave active ∧
      after (.registerWrite 0x47 (some 5)) active = after (.tableData 23 5) active := by
  decide +kernel

/-! ### The line -/

/-- A receiver in a state, the line-stuck flag given. -/
def receiver (rx : RxState) (stuck : Bool) : State :=
  withLine active fun l => { l with rx := rx, stuck := stuck, stuckTime := 0 }

theorem test_register_reads :
    let s := { receiver .receiving true with time := { active.time with lineTime := 0x0102030405 } }
    s.readByte 0x03 = 0x13 ∧ s.readByte 0x10 = 5 ∧ s.readByte 0x02 = 2 ∧ s.readByte 0x0E = 0 ∧
      s.readByte 0x28 = 0 ∧ s.readByte 0x2B = 0 ∧ s.readByte 0x0F = 0 ∧ s.readByte 0x48 = 0 ∧
      reported.readByte 0x18 = 19 ∧ reported.readByte 0x0E = 1 := by
  decide +kernel

theorem test_gap :
    (after (.gap 2199) (receiver .seeking false)).line.rx = .seeking ∧
      (after (.gap 2200) (receiver .seeking false)).line.rx = .free ∧
      (after (.gap 2200) (receiver .receiving false)).line.rxErrors = 1 ∧
      bodies (after (.gap 2200) (receiver .seeking true)) = [.lineFree 0] ∧
      (let s := fun n => withLine (receiver .seeking true) fun l => { l with stuckFor := n }
       bodies (after (.gap 2200) (s (2 ^ 32 - 1))) = [.lineFree 0xFFFFFFFF] ∧
         bodies (after (.gap 2200) (s (2 ^ 47))) = [.lineFree 0xFFFFFFFF] ∧
         bodies (after (.gap 2200) (s (2 ^ 48 + 5))) = [.lineFree 0xFFFFFFFF] ∧
         (s 7).tick.line.stuckFor = 8 ∧ (receiver .free false).tick.line.stuckFor = 0) ∧
      (let s := withLine (receiver .receiving false) fun l => { l with attempt := .sending }
       (after (.gap 2200) s).line.rx = .receiving) ∧
      bodies (after (.gap 2200) (receiver .free false)) = [] ∧
      State.reset.station.cfg.bitTicks = some 200 := by
  decide +kernel

theorem test_start_edge_and_stuck_line :
    (after (.startEdge false) (receiver .free false)).line.rxFrame =
        some { rawStamp := 0, bytes := [] } ∧
      (after (.startEdge true) (receiver .free false)).line.rx = .free ∧
      (after (.startEdge false) (receiver .seeking false)).line.rxFrame = none ∧
      bodies (after (.lineStuck 5000) (receiver .seeking false)) = [.lineStuck] ∧
      (after (.lineStuck 5000) (receiver .seeking false)).line.rx = .seeking ∧
      bodies (after (.lineStuck 4999) (receiver .seeking false)) = [] ∧
      bodies (after (.lineStuck 5000) (receiver .seeking true)) = [] ∧
      (after (.lineStuck 5000) (receiver .free false)).line.stuck = false ∧
      (after (.lineStuck 5000) (receiver .free false)).line.dominantRun = 5000 := by
  decide +kernel

/-- An occurrence with every field different from the defaults. -/
def fullOcc : Occurrence :=
  { event := 0xABC, stamp := 0x123456789ABC, origin := .row 3, gen := 2, payload := some 0xDEADBEEF,
    restamped := false }

theorem test_crc_check_value :
    crc16 [0x31, 0x32, 0x33, 0x34, 0x35, 0x36, 0x37, 0x38, 0x39] = 0x29B1 := by
  decide +kernel

theorem test_notice_bytes_of_three_stations :
    (eventBytes 2 5 true { fullOcc with payload := none }).take 2 = [72, 22] ∧
      (eventBytes 2 12 true fullOcc).take 2 = [72, 51] ∧
      (eventBytes 3 40 true fullOcc).take 1 = [104] := by
  decide +kernel

theorem test_character_bits :
    charBits 0xA1 = [false, true, false, true, false, false, false, false, true, true] := by
  decide

/-- A row of characters is read whole and valid as a notice. -/
def readsAs (l : List Byte) (got : Received) : Prop :=
  readChars (chars l) [] = (l, .complete) ∧ validNotice l .complete = some got

theorem test_sync_read_as_sent :
    readsAs (withCrc (syncBytes 63 true 255 (some 0xFEDCBA987654)))
        (.sync 63 true 255 (some 0xFEDCBA987654)) ∧
      readsAs (withCrc (syncBytes 0 false 0 none)) (.sync 0 false 0 none) := by
  unfold readsAs
  decide +kernel

theorem test_event_read_as_sent :
    fullOcc.event ≠ 0 ∧
      readsAs (withCrc (eventBytes 7 63 false fullOcc))
        (.event 63 false 0xABC 2 0x123456789ABC (some 0xDEADBEEF)) ∧
      readsAs (withCrc (eventBytes 0 1 true { fullOcc with gen := 3, payload := none }))
        (.event 1 true 0xABC 3 0x123456789ABC none) := by
  unfold readsAs
  decide +kernel

theorem test_leave_read_as_sent :
    readsAs (withCrc (leaveBytes 7 42 true 0)) (.leave 42 0) ∧
      readsAs (withCrc (leaveBytes 0 0 false 255)) (.leave 0 255) := by
  unfold readsAs
  decide +kernel

/-- A frame in reception with its start edge at 1000 and a line delay of 90. -/
def receiving (m : StationMode) : State :=
  let s := at' m
  withLine { s with station := { s.station with cfg := { s.station.cfg with station := 2, lineDelay := 90 } } }
    fun l => { l with rx := .receiving, rxFrame := some { rawStamp := 1000, bytes := [] } }

/-- The frame of an EVENT notice of station 5. -/
def eventFrame (synced : Bool) : Instr :=
  .frameEnd (chars (withCrc (eventBytes 2 5 synced fullOcc)))

theorem test_event_delivered :
    (after (eventFrame true) (receiving .active)).disp.queue = [{ fullOcc with origin := .station 5 }] ∧
      (after (eventFrame false) (receiving .drifted)).disp.queue =
        [{ fullOcc with origin := .station 5, stamp := 1090, restamped := true }] ∧
      (after (eventFrame true) (receiving .listen)).disp.queue = [] ∧
      (let s := receiving .active
       bodies
           (after (eventFrame true)
             { s with disp := { s.disp with queue := List.replicate 8 fullOcc } }) =
         [.dispatchOverflow 0xABC (.station 5)]) := by
  decide +kernel

theorem test_leave_delivered :
    let s := receiving .leaving
    let frame := Instr.frameEnd (chars (withCrc (leaveBytes 7 5 true 0)))
    let t := { s with time := { s.time with peers := [peer 5 .absent true 0] } }
    (after frame t).time.peers = [] ∧ bodies (after frame t) = [.peerLost 5 .left] ∧
      bodies (after frame s) = [] := by
  decide +kernel

/-- The frame of a SYNC notice, sequence 8, after a previous edge at 8000. -/
def syncFrame (n : StationNo) : Instr :=
  .frameEnd (chars (withCrc (syncBytes n true 8 (some 8000))))

/-- A frame in reception with a peer time table. -/
def hearing (m : StationMode) (l : List PeerRecord) : State :=
  let s := receiving m
  { s with time := { s.time with peers := l } }

theorem test_sync_makes_pair :
    (after (syncFrame 5) (hearing .active [peer 5 .absent true 1])).time.peers =
        [{ station := 5, stamp := 1090, seq := 8, offset := .fresh 3000, synced := true, age := 0 }] ∧
      (after (syncFrame 5)
            (hearing .active [{ peer 5 (.used 1) true 1 with seq := 6 }])).time.peers.map
          (fun r => r.offset) =
        [.absent] ∧
      (after (syncFrame 5) (hearing .leaving [])).time.peers = [] ∧
      (after (syncFrame 5) (hearing .config [])).time.peers = [] := by
  decide +kernel

theorem test_sync_of_new_station :
    bodies (after (syncFrame 5) (hearing .listen ((fullTable 1).drop 6))) = [.peerJoined 5 true] ∧
      bodies (after (syncFrame 2) (hearing .active [])) = [.stationClash 8] ∧
      bodies (after (syncFrame 40) (hearing .active (fullTable 2))) =
        [.peerLost 0 .replaced, .peerJoined 40 true] ∧
      bodies (after (syncFrame 40) (hearing .active (fullTable 1))) = [.peerTableFull 40] ∧
      oldestPeer (fullTable 1) = none ∧ oldestPeer (fullTable 2) = some (peer 0 .absent true 2) ∧
      (let s := hearing .active (fullTable 1)
       bodies (after (syncFrame 40) { s with time := { s.time with peerFullReported := true } }) =
         []) := by
  decide +kernel

theorem test_frame_discarded :
    (after (.frameEnd (chars [72, 22])) (receiving .active)).line.rx = .free ∧
      (after (.frameEnd (chars [72, 22])) (receiving .active)).line.rxErrors = 1 ∧
      (after (.frameEnd (chars (leaveBytes 7 5 true 0 ++ [0, 0]))) (receiving .active)).line.rxErrors =
        1 ∧
      (after
            (.frameEnd (chars (withCrc (eventBytes 2 5 true { fullOcc with event := 0 }))))
            (receiving .active)).line.rxErrors =
        1 ∧
      (after (.frameEnd [⟨false, 72, false⟩]) (receiving .active)).line.rx = .seeking ∧
      malformed [73] = true ∧ (readChars (chars [73, 22]) []).2 = .gap := by
  decide +kernel

/-- A FREE receiver with a transmit queue. -/
def offering (m : StationMode) (q : List Notice) : State :=
  withLine (receiving m) fun l => { l with rx := .free, rxFrame := none, txq := q }

theorem test_attempt_begins :
    (after .attemptBegin (offering .active [syncNote 0 false])).line.attempt = .arbitrating ∧
      (after .attemptBegin (offering .drifted [note 5 3 0 false])).line.txq = [note 5 3 0 true] ∧
      (after .attemptBegin (offering .leaving [leaveNote 2 false])).line.txl = false ∧
      (after .attemptBegin (offering .listen [leaveNote 2 false])).line.attempt = .waitGap := by
  decide +kernel

/-- An own attempt with its frame on the line, in the middle of a bit at 500 kbit/s. -/
def attempting (m : StationMode) (a : AttemptState) (n : Notice) (sample : Nat) : State :=
  withLine (receiving m) fun l =>
    { l with
      attempt := a, txl := false, txq := [n, note 9 7 0 false]
      attemptBytes := (receiving m).noticeBytes n, txClock := some (200 * sample + 100) }

/-- An own attempt at the stop bit of its last character. -/
def completing (m : StationMode) (n : Notice) : State :=
  attempting m .sending n (10 * ((receiving m).noticeBytes n).length - 1)

theorem test_arbitration :
    sentLevel (attempting .active .arbitrating (note 5 3 1 true) 2).line.attemptBytes 2 = some true ∧
      (after (.arbitrationLost 1) (attempting .active .arbitrating (note 5 3 1 true) 2)).line.txq =
        [note 5 3 1 false, note 9 7 0 false] ∧
      sentLevel (attempting .leaving .arbitrating (syncNote 1 true) 15).line.attemptBytes 15 = some true ∧
      (after (.arbitrationLost 12) (attempting .leaving .arbitrating (syncNote 1 true) 15)).line.txq =
        [note 9 7 0 false] ∧
      (after (.arbitrationLost 12)
            (attempting .active .arbitrating (syncNote 1 true) 15)).line.rxFrame.map
          (fun f => f.bytes.length) =
        some 1 ∧
      (after .arbitrationWon (attempting .active .arbitrating (note 5 3 1 true) 18)).line.attempt =
        .sending ∧
      (after .arbitrationWon (attempting .active .arbitrating (note 5 3 1 true) 17)).line.attempt =
        .arbitrating := by
  decide +kernel

/-- The bits of the frame are driven one bit time each, from the start edge on. -/
theorem test_bits_driven :
    let s := fun n =>
      withLine (attempting .active .arbitrating (note 5 3 1 true) 0) fun l =>
        { l with txClock := some n }
    (s 199).tick.line.txl = false ∧ (s 399).tick.line.txl = true ∧ (s 399).tick.line.txClock = some 400 ∧
      (s 1799).tick.line.txl = true ∧ (s 1999).tick.line.txl = false ∧
      ((List.range 20).map fun k => (sentLevel (s 0).line.attemptBytes k).getD true) =
        charBits ((s 0).line.attemptBytes[0]?.getD 0) ++ charBits ((s 0).line.attemptBytes[1]?.getD 0) := by
  decide +kernel

theorem test_bit_error_counts :
    (after (.bitError 19) (attempting .active .sending (note 5 3 1 true) 19)).line.txq =
        [note 5 3 2 false, note 9 7 0 false] ∧
      (after (.bitError 119) (attempting .active .sending (note 5 3 1 true) 119)).line.rxFrame.map
          (fun f => f.bytes.length) =
        some 11 ∧
      (after (.bitError 10) (attempting .active .arbitrating (note 5 3 1 true) 10)).line.txq =
        [note 5 3 2 false, note 9 7 0 false] ∧
      (after (.bitError 1) (attempting .active .arbitrating (note 5 3 1 true) 1)).line.txq =
        [note 5 3 2 false, note 9 7 0 false] ∧
      (let s :=
         withLine (attempting .active .arbitrating (note 5 3 1 true) 0) fun l =>
           { l with rx := .free, rxFrame := none, txClock := none }
       (after (.bitError 0) s).line.txq = [note 5 3 2 false, note 9 7 0 false]) := by
  decide +kernel

/-- After a bit error at the start bit of byte 0 the receiver is FREE, and the next attempt waits for a gap;
another station's frame can be read meanwhile. -/
theorem test_nothing_driven_before_the_gap :
    let s :=
      withLine (attempting .active .arbitrating (note 5 3 1 true) 0) fun l =>
        { l with rx := .free, rxFrame := none, txClock := none }
    let e := after (.bitError 0) s
    e.line.rx = .free ∧ e.line.attempt = .waitGap ∧ e.line.awaitGap = true ∧ e.attemptDue = false ∧
      after .attemptBegin e = e ∧ (after (.startEdge true) e).attemptDue = false ∧
      (after (.gap 2199) e).line.awaitGap = true ∧
      (after .attemptBegin (after (.gap 2200) e)).line.attempt = .arbitrating ∧
      (run [.startEdge false, .frameEnd (chars [0x48, 0x16])] e).line.awaitGap = false ∧
      (run [.startEdge false, .gap 2200] e).attemptDue = true := by
  decide +kernel

theorem test_bit_error_third :
    bodies (after (.bitError 50) (attempting .active .sending (note 5 3 2 true) 50)) =
        [.eventLost 5 .abandoned] ∧
      (after (.bitError 30) (attempting .active .sending (syncNote 2 true) 30)).line.txq =
        [note 9 7 0 false] ∧
      (after (.bitError 30) (attempting .leaving .sending (syncNote 0 true) 30)).line.txq =
        [note 9 7 0 false] ∧
      bodies (after (.bitError 30) (attempting .leaving .sending (leaveNote 2 true) 30)) =
        [.stateChange .config .leaveAbandoned] := by
  decide +kernel

theorem test_attempt_completes :
    (after .attemptComplete (completing .active (syncNote 0 true))).time.prevEdge =
        some 1000 ∧
      (after .attemptComplete (completing .active (note 5 3 0 true))).disp.queue =
        [occ 5 0 (.station 2)] ∧
      (after .attemptComplete (completing .leaving (note 5 3 0 true))).disp.queue = [] ∧
      (let s := completing .active (note 5 3 0 true)
       bodies
           (after .attemptComplete
             { s with disp := { s.disp with queue := List.replicate 8 fullOcc } }) =
         [.dispatchOverflow 5 (.station 2)]) ∧
      (after .attemptComplete (completing .leaving (leaveNote 0 true))).station.mode =
        .config := by
  decide +kernel

theorem test_leave_drain :
    (after .leaveNoticePlaced (offering .leaving [syncNote 0 true])).line.txq =
        [syncNote 0 true, leaveNote 0 false] ∧
      (let s := offering .leaving [note 5 3 0 false, note 6 3 0 false]
       let t :=
         { s with
           station := { s.station with leaveTimer := some 0 }, line := { s.line with rxErrors := 2 } }
       bodies (after .leaveTimeout t) =
         [.eventLost 5 .leaveTimeout, .eventLost 6 .leaveTimeout, .rxErrors 2,
           .stateChange .config .leaveTimeout]) := by
  decide +kernel

/-! ### The sync round and the join step -/

theorem test_medians :
    median [0, -3000] = -1500 ∧ median [10, -7, 4, 0] = 2 ∧ median [0, 5] = 2 ∧ median [0] = 0 ∧
      median [0, -5] = -2 ∧ median [3, 1, 2] = 2 := by
  decide +kernel

/-- An expired sync timer, with a peer time table. -/
def roundEnd (m : StationMode) (l : List PeerRecord) : State :=
  { at' m with
    time := { TimeUnit.reset with syncTimer := some 0, peers := l, outCount := 2, inCount := 1 } }

theorem test_sync_round :
    (after .syncRound (roundEnd .active [])).time.syncTimer = some 1000000 ∧
      (after .syncRound (roundEnd .active [])).time.alone = true ∧
      (after .syncRound (roundEnd .active [])).line.txq = [syncNote 0 false] ∧
      (after .syncRound (roundEnd .active [peer 3 (.fresh 6000) true 0])).station.mode = .drifted ∧
      (after .syncRound (roundEnd .active [peer 3 (.fresh 6000) true 0])).time.slew = 500 ∧
      (after .syncRound (roundEnd .drifted [peer 3 (.fresh 4000) true 0])).station.mode = .active ∧
      (after .syncRound (roundEnd .drifted [peer 3 (.fresh 4002) true 0])).station.mode = .drifted ∧
      bodies (after .syncRound (roundEnd .drifted [peer 3 (.fresh 4002) true 3])) =
        [.peerLost 3 .aged] := by
  decide +kernel

theorem test_listen_window :
    (after .listenWindowExpiry listenEnd).station.mode = .active ∧
      (after .listenWindowExpiry listenEnd).time.alone = true ∧
      bodies (after .listenWindowExpiry listenEnd) = [.stateChange .active .founded] ∧
      (let s := { listenEnd with time := { TimeUnit.reset with peers := [peer 3 (.fresh (-7)) true 0] } }
       (after .listenWindowExpiry s).time.lineTime = -7 ∧
         (after .listenWindowExpiry s).time.peers = [{ peer 3 (.used (-7)) true 0 with stamp := 4993 }]) ∧
      (let s := { listenEnd with time := { TimeUnit.reset with peers := [peer 3 (.fresh 9) false 0] } }
       (after .listenWindowExpiry s).station.mode = .drifted) := by
  decide +kernel

/-- A change due at the join step takes a stamp of the new scale, another keeps its own (R89, R139). -/
theorem test_join_step_candidates :
    let s := { listenEnd with time := { TimeUnit.reset with peers := [peer 3 (.fresh (-7)) true 0] } }
    let u :=
      withChan (withChan s 2 fun c => { c with sensed := true, cand := some ⟨90, 0, 0⟩ }) 3 fun c =>
        { c with sensed := true, cand := some ⟨90, 200, 1⟩ }
    (after .listenWindowExpiry u).chans[2].cand = some ⟨83, 0, 0⟩ ∧
      (after .listenWindowExpiry u).chans[3].cand = some ⟨90, 200, 1⟩ := by
  decide +kernel

/-! ### Dispatch and the requests -/

/-- The five entries of the manual's example for event 100 at station 7. -/
def fiveFilters : State :=
  let put := fun (v : Vector SubEntry 64) (i : Fin 64) (f : OriginFilter) (a : Action) =>
    updVec v i fun _ => ({ event := 100, filter := f, policy := .every, action := a, armed := true } : SubEntry)
  let v := put active.disp.subs 2 .inside (.latch .incremental 1 none)
  let v := put v 5 .line (.cancel 0)
  let v := put v 6 (.station 7) .capture
  let v := put v 8 (.station 3) (.measure 4 .rise 0 2)
  let v := put v 11 .any (.compare 1)
  { active with disp := { active.disp with subs := v } }

/-- The indices of the entries that match an occurrence. -/
def acting (s : State) (o : Occurrence) : List Nat :=
  (List.range 64).filter fun i => ((s.disp.subs[i]?).map fun e => e.matchesOcc o).getD false

theorem test_five_filters :
    acting fiveFilters (occ 100 0 (.station 7)) = [5, 6, 11] ∧
      acting fiveFilters (occ 100 0 (.station 3)) = [5, 8, 11] ∧
      acting fiveFilters (occ 100 0 .hostPort) = [2, 11] := by
  decide +kernel

theorem test_dispatch_starts_and_ends :
    let s := { active with disp := { active.disp with queue := [occ 7 0 .hostPort] } }
    (after .dispatchStart s).disp.current = some (occ 7 0 .hostPort) ∧
      (let t := after .dispatchStart s
       (after .dispatchComplete { t with disp := { t.disp with scanPos := 64 } }).disp.current = none) := by
  decide +kernel

/-- A scan at position 63, whose entry has a policy. -/
def scanning (p : Policy) (armed : Bool) : State :=
  { active with
    disp :=
      { active.disp with
        current := some (occ 7 0 .hostPort), scanPos := 63
        subs :=
          updVec active.disp.subs 63 fun _ =>
            { event := 7, filter := .inside, policy := p, action := .preset 5, armed := armed } } }

/-- An entry that acts, its request taken at once. -/
def actsNow (s : State) (i : Fin 64) (a : Action) : State :=
  (((s.disarmOnce i).useChoices 1).takeRequest
    (s.handOn a ((occ 7 0 .hostPort).causeFor i))).advanceScan

/-- An entry that acts, its request left under way. -/
def actsLater (s : State) (i : Fin 64) (a : Action) : State :=
  (((s.disarmOnce i).useChoices 1).leaveUnderWay
    (s.handOn a ((occ 7 0 .hostPort).causeFor i))).advanceScan

theorem test_entry_acts (p : Policy) :
    after .entryExamined (scanning p true) = actsNow (scanning p true) 63 (.preset 5) ∨
      after .entryExamined (scanning p true) = actsLater (scanning p true) 63 (.preset 5) := by
  have h : after .entryExamined (scanning p true) = (scanning p true).entryExamined := rfl
  have a : (scanning p true).disp.subs[(63 : Fin 64).val].action = .preset 5 := by
    cases p <;> decide +kernel
  rw [h, entryExamined_acts (o := occ 7 0 .hostPort) (i := 63) rfl rfl rfl
    (by cases p <;> decide +kernel), a]
  rcases passOn_cases ((scanning p true).disarmOnce 63)
    ((scanning p true).handOn (.preset 5) ((occ 7 0 .hostPort).causeFor 63)) with h | h <;> rw [h]
  · exact Or.inl rfl
  · exact Or.inr rfl

theorem test_entry_examined :
    (actsNow (scanning .every true) 63 (.preset 5)).pos.offset = 5 ∧
      (actsNow (scanning .every true) 63 (.preset 5)).disp.scanPos = 64 ∧
      (actsNow (scanning .once true) 63 (.preset 5)).disp.subs[63].armed = false ∧
      (actsLater (scanning .once true) 63 (.preset 5)).disp.subs[63].armed = false ∧
      (actsLater (scanning .once true) 63 (.preset 5)).pos.offset = 0 ∧
      (actsLater (scanning .once true) 63 (.preset 5)).takeUnderWay.pos.offset = 5 ∧
      (after .entryExamined (scanning .once false)).pos.offset = 0 := by
  decide +kernel

/-- A LEAVE or a RESTART between the acting of a ONCE entry and the taking of its request (R61): a DRIVE is
discarded, a LATCH written. -/
theorem test_request_taken_after_flush :
    let drive := actsLater (scanning .once true) 63 (.drive ⟨1, 1, 5000, 10, 1, 0, 1, 0, 6, none⟩)
    let latch := actsLater (scanning .once true) 63 (.latch .incremental 2 none)
    (after .leave drive).disp.underWay.isSome = true ∧
      (after .leave drive).takeUnderWay.sched.entries = [] ∧
      (after .leave drive).takeUnderWay.disp.subs[63].armed = false ∧
      (after .leave drive).takeUnderWay.disp.underWay = none ∧
      bodies (after .leave drive).takeUnderWay = [.scheduleFlushed 0, .stateChange .leaving .leave] ∧
      drive.takeUnderWay.sched.entries.length = 1 ∧
      (after .restart latch).takeUnderWay.meas.latches[2].isNew = true ∧
      (after (.hardwareReset .release) drive).disp.underWay = none := by
  decide +kernel

theorem test_sources :
    let bound :=
      { active with
        disp :=
          { active.disp with
            bindings :=
              updVec active.disp.bindings 24 fun _ =>
                { event := 9, scope := .line, priority := 3, payloadFlag := true } } }
    (bound.fireRow 24 5 (some 6)).line.txq.length = 1 ∧ bound.fireRow 23 5 none = bound ∧
      (bound.fireDerived 24 (cause 1 1 2 0) 5 (some 6) false).line.txq.length = 1 ∧
      bodies (bound.fireDerived 24 (cause 1 1 3 8) 5 (some 6) false) = [.chainLimit 9 8] ∧
      bodies (active.derive 3 8 { event := 9, scope := .here, priority := 0 } (occ 9 0 (.entry 8))) =
        [.chainLimit 9 8] ∧
      placeNotice (note 1 3 0 false) [note 2 3 0 false, note 3 4 0 false] =
        [note 2 3 0 false, note 1 3 0 false, note 3 4 0 false] := by
  decide +kernel

/-- A DRIVE of channel 0 for 5,000 ticks, `k` pulses in `m` bursts. -/
def pulses (delay : BitVec 32) (k m : Byte) (e : Option EventDesc) : DriveParams :=
  { mask := 1, onLevels := 1, width := 5000, delay := delay, innerCount := k, innerSpacing := 10000,
    outerCount := m, outerSpacing := 40000, tag := 6, endEvent := e }

/-- The station at line time 1000. -/
def later : State := { active with time := { active.time with lineTime := 1000 } }

theorem test_drive :
    (later.request (.drive (pulses 1 1 1 none)) (cause 4 1000 0 7)).sched.entries.map
          (fun e => (e.due, e.late)) =
        [(1001, false)] ∧
      (later.request (.drive (pulses 0 1 1 none)) (cause 4 1000 0 7)).sched.entries.map
          (fun e => (e.due, e.phase)) =
        [(6000, .off)] ∧
      bodies (later.request (.drive (pulses 0 1 1 none)) (cause 4 998 0 7)) = [.actionLate 2 7] ∧
      (later.request (.drive (pulses 0 1 1 none)) (cause 4 1000 0 7)).chans[0].lastCmd = true ∧
      bodies
          ((List.range 33).foldl
            (fun s _ => s.request (.drive (pulses 9 1 1 none)) (cause 4 1000 0 7)) later) =
        [.scheduleFull 7 4] := by
  decide +kernel

/-- The schedule with one entry of a DRIVE, its phase pending at the station's line time. -/
def expiring (p : DriveParams) (ph : Phase) (inner outer : Byte) : State :=
  { later with
    sched :=
      { entries :=
          [{ driveEntry p (cause 4 1000 1 7) 1000 false with
            phase := ph, innerRem := inner, outerRem := outer }]
        counter := 9 } }

theorem test_schedule_expires :
    (after .scheduleExpiry (expiring (pulses 0 4 3 none) .on 4 3)).sched.entries.map
          (fun e => (e.due, e.phase, e.suppressed)) =
        [(6000, .off, 1)] ∧
      (after .scheduleExpiry (expiring (pulses 0 4 3 none) .off 4 3)).sched.entries.map
          (fun e => (e.due, e.innerRem)) =
        [(11000, 3)] ∧
      (after .scheduleExpiry (expiring (pulses 0 4 3 none) .off 1 3)).sched.entries.map
          (fun e => (e.due, e.innerRem, e.outerRem)) =
        [(41000, 4, 2)] ∧
      (after .scheduleExpiry (expiring (pulses 0 4 3 none) .off 1 1)).sched.entries = [] ∧
      (after .scheduleExpiry
            (expiring (pulses 0 4 3 (some { event := 8, scope := .here, priority := 0 })) .off 1
              1)).disp.queue =
        [{ event := 8, stamp := 1000, origin := .entry 7, gen := 2, payload := none,
           restamped := false }] := by
  decide +kernel

/-- The same, one tick before the entry is due. -/
def beforeDue (ph : Phase) : State :=
  let s := expiring (pulses 0 4 3 none) ph 4 3
  { s with time := { s.time with lineTime := 999 } }

theorem test_cancel :
    ((beforeDue .off).request (.cancel 6) (cause 4 1000 0 3)).sched.entries = [] ∧
      bodies ((beforeDue .off).request (.cancel 6) (cause 4 1000 0 3)) = [.cancelled 6 7 4 3 1] ∧
      ((beforeDue .on).request (.cancel 5) (cause 4 1000 0 3)).sched.entries.length = 1 ∧
      (beforeDue .on).scheduleDue = false := by
  decide +kernel

/-- Two entries of one tag whose OFF phase is due at one instant. -/
def dueTogether : State :=
  let e := { driveEntry (pulses 0 4 1 none) (cause 4 1000 1 7) 1000 false with phase := .off }
  { later with sched := { entries := [e, { e with originEntry := 8 }], counter := 9 } }

/-- Of two entries due together the CANCEL can find the first, and the second not before it has expired
and is at its next pulse (R57). -/
theorem test_cancel_between_expiries (h0 : Config.freeChoice 0 % 3 = 1)
    (h1 : Config.freeChoice 1 % 3 = 2) :
    let e := dueTogether.sched.entries[0]
    let alone := dueTogether.setSched { dueTogether.sched with entries := dueTogether.sched.entries.tail }
    State.expireBefore 6 3 [] dueTogether =
      { (alone.scheduleExpiry.putBack [e]) with choices := 2 } := by
  intro e alone
  let x := dueTogether.sched.entries[1]
  let s := (dueTogether.useChoices 1).setSched { dueTogether.sched with entries := [x] }
  let expired := (s.useChoices 1).scheduleExpiry
  have one : State.expireBefore 6 3 [] dueTogether = State.expireBefore 6 2 [e] s :=
    expireBefore_leave (e := e) (l := [x]) (by decide +kernel) (by decide +kernel) h0
      (by decide +kernel)
  have two : State.expireBefore 6 2 [e] s = State.expireBefore 6 1 [e] expired :=
    expireBefore_expire (e := x) (l := []) (by decide +kernel) (by decide +kernel) h1
  have three : State.expireBefore 6 1 [e] expired = expired.putBack [e] :=
    expireBefore_notDue (e := { x.nextPulse with suppressed := 1, seq := 9 }) (l := [])
      (by decide +kernel) (by decide +kernel)
  have same : expired.putBack [e] = { (alone.scheduleExpiry.putBack [e]) with choices := 2 } := by
    decide +kernel
  exact one.trans (two.trans (three.trans same))

theorem test_latch_and_preset :
    let d := some { event := 421, scope := .here, priority := 0 }
    let s := active.request (.preset 1250) (cause 420 4200000 0 12)
    let t := s.request (.latch .incremental 7 d) (cause 420 4200000 0 9)
    s.pos.incremental = 1250 ∧ t.meas.latches[7].value = 1250 ∧ t.meas.latches[7].overrun = false ∧
      t.disp.queue =
        [{ event := 421, stamp := 4200000, origin := .entry 9, gen := 1, payload := some 1250,
           restamped := false }] ∧
      (t.request (.latch .absolute 7 none) (cause 420 4200000 0 9)).meas.latches[7].overrun = true := by
  decide +kernel

/-- Comparator 1 of the manual's rotary axis. -/
def axis : State :=
  { active with
    pos := { active.pos with cfg := { active.pos.cfg with signB := .zero } }
    meas :=
      { active.meas with
        cmpCfg :=
          updVec active.meas.cmpCfg 1 fun _ =>
            { source := .incremental, origin := 3900, margin := 300, maskBits := 12, strict := false,
              mode := .change, trueSlot := some 2, falseSlot := none } } }

/-- An evaluation at a position. -/
def evalAt (s : State) (v : Value32) : State :=
  ({ s with pos := { s.pos with cntA := v } } : State).request (.compare 1) (cause 700 0 0 0)

theorem test_rotary_axis :
    (evalAt axis 3850).meas.cmpRun[1].last = some false ∧
      (evalAt (evalAt axis 3850) 3950).meas.latches[2].value = 3950 ∧
      (evalAt (evalAt axis 3950) 4100).meas.latches[2].isNew = false ∧
      (evalAt (evalAt axis 3950) 4300).meas.cmpRun[1].last = some false ∧
      (evalAt (evalAt axis 4300) 8000).meas.latches[2].value = 8000 := by
  decide +kernel

/-- The rotary axis in another mode. -/
def axisIn (m : CmpMode) (spent strict : Bool) : State :=
  { axis with
    meas :=
      { axis.meas with
        cmpCfg := updVec axis.meas.cmpCfg 1 fun g => { g with mode := m, strict := strict }
        cmpRun := updVec axis.meas.cmpRun 1 fun r => { r with spent := spent } } }

theorem test_comparator_modes :
    evalAt (axisIn .off false false) 0 = axisIn .off false false ∧
      (evalAt (axisIn .once false false) 4200).meas.latches[2].value = 4200 ∧
      (evalAt (axisIn .once true false) 4200).meas.latches[2].isNew = false ∧
      (evalAt (axisIn .every true true) 4200).meas.latches[2].isNew = false ∧
      (evalAt (axisIn .every true true) 4199).meas.latches[2].isNew = true := by
  decide +kernel

/-- A channel whose FIFO holds the edges of the manual's bouncing contact. -/
def contact : State :=
  withChan active 4 fun c =>
    { c with
      cfg := { c.cfg with filterMicros := 20 }, rises := 41, falls := 40
      fifo := [⟨.fall, 2900000⟩, ⟨.rise, 2850000⟩] }

theorem test_measure :
    (contact.request (.measure 4 .rise 0 7) (cause 1 2850100 0 0)).meas.slots[7].value = 100 ∧
      (contact.request (.measure 4 .either 0 7) (cause 1 2850100 0 0)).meas.slots[7].value = -49900 ∧
      (contact.request (.measure 4 .rise 1 7) (cause 1 2850100 0 0)).meas.slots[7].valid = false ∧
      (contact.request (.measure 4 .rise 0 7)
            (cause 1 (2850000 + 2147483648) 0 0)).meas.slots[7].saturated =
        true ∧
      (contact.request (.measure 4 .rise 0 7)
            (cause 1 (2850000 - 2147483649) 0 0)).meas.slots[7].value =
        0x80000000 := by
  decide +kernel

/-! ### The field pins -/

/-- A station at a line time. -/
def atTime (s : State) (t : LineTime) : State := { s with time := { s.time with lineTime := t } }

theorem test_bouncing_contact :
    let a := after (.pinTransition 4 true) (atTime contact 3000000)
    let b := after (.pinTransition 4 false) (atTime a 3000800)
    let c := after (.pinTransition 4 true) (atTime b 3001500)
    let run2000 := withChan (atTime c 3003500) 4 fun ch => { ch with cand := ch.cand.map fun k => { k with left := 0 } }
    let d := after (.edgeCounted 4) run2000
    a.chans[4].cand = some { stamp := 3000000, length := 2000, left := 2000 } ∧
      b.chans[4].cand = none ∧ c.chans[4].cand = some { stamp := 3001500, length := 2000, left := 2000 } ∧
      d.chans[4].fifo = [⟨.rise, 3001500⟩, ⟨.fall, 2900000⟩, ⟨.rise, 2850000⟩] ∧
      d.chans[4].rises = 42 ∧ d.chans[4].filtered = true := by
  decide +kernel

theorem test_pin_transition_clauses :
    after (.pinTransition 4 false) contact = contact ∧
      (after (.pinTransition 7 false) (output7 .enabled)).chans[7].mismatch = none ∧
      (after (.pinTransition 7 true)
            (withChan (output7 .enabled) 7 fun c => { c with lastCmd := false })).chans[7].mismatch =
        some 2000 ∧
      (let s := after (.pinTransition 7 true) active
       s.chans[7].cand = some { stamp := 0, length := 0, left := 0 } ∧
         (after (.pinTransition 7 false) s).chans[7].rises = 1) := by
  decide +kernel

/-- IO0 and IO1 both due for a rise, in a position mode. -/
def bothDue (m : PosMode) : State :=
  let rise := fun (t : LineTime) (c : Channel) =>
    { c with sensed := true, cand := some { stamp := t, length := 0, left := 0 } }
  let s := withChan (withChan active 0 (rise 5)) 1 (rise 6)
  { s with pos := { s.pos with cfg := { s.pos.cfg with mode := m } } }

theorem test_edge_counted_pair :
    (after (.edgeCounted 0) (bothDue .edge)).pos.cntA = 1 ∧
      (after (.edgeCounted 1) (bothDue .edge)).pos.cntB = 1 ∧
      (after (.edgeCounted 1) (bothDue .edge)).chans[0].cand = none ∧
      (after (.edgeCounted 0) (bothDue .quadrature)).pos.quadErrors = 1 ∧
      (after (.edgeCounted 0) (bothDue .updown)).pos.cntA = 1 := by
  decide +kernel

theorem test_position_counts :
    let u := fun (m : PosMode) => { PositionUnit.reset false false false with cfg := { PosConfig.reset with mode := m } }
    let h : HandOver := { io0 := some ⟨.rise, 5⟩, io1 := none, new0 := true, new1 := false }
    ((u .off).counted h).cntA = 0 ∧ ((u .edge).counted h).cntA = 1 ∧ ((u .updown).counted h).cntA = 1 ∧
      ({ u .updown with pair1 := true } |>.counted h).cntB = 1 ∧ ((u .quadrature).counted h).cntA = 1 ∧
      ({ u .quadrature with pair0 := true, pair1 := true } |>.counted h).cntB = 1 ∧
      ({ u .quadrature with pair1 := true } |>.counted h).quadErrors = 1 ∧
      ({ u .quadrature with pair0 := true } |>.counted h).cntA = 0 := by
  decide +kernel

theorem test_illegal_transition_stamp :
    ({ io0 := some ⟨.rise, 5⟩, io1 := some ⟨.rise, 6⟩, new0 := true, new1 := true } : HandOver).stamp = 6 ∧
      ({ io0 := some ⟨.rise, 5⟩, io1 := some ⟨.rise, 5⟩, new0 := true, new1 := true } : HandOver).stamp =
        5 ∧
      ({ io0 := some ⟨.rise, 5⟩, io1 := none, new0 := true, new1 := true } : HandOver).stamp = 5 ∧
      ({ io0 := none, io1 := some ⟨.rise, 7⟩, new0 := true, new1 := true } : HandOver).stamp = 7 ∧
      (bothDue .quadrature).pos.cfg.mode = .quadrature ∧ (bothDue .quadrature).pos.pair0 = false := by
  decide +kernel

theorem test_readback_fault :
    let s := withChan (output7 .enabled) 7 fun c => { c with mismatch := some 0 }
    (after (.readbackFault 7) s).chans[7].out = some .heldOff ∧
      (after (.readbackFault 7) s).chans[7].holdOff = some 10000000 ∧
      bodies (after (.readbackFault 7) s) = [.outputFault 7 true] := by
  decide +kernel

theorem test_hold_off_expiry :
    let s := fun (auto : Bool) =>
      withChan (output7 .heldOff) 7 fun c =>
        { c with cfg := { c.cfg with autoRestore := auto }, holdOff := some 0 }
    (after (.holdOffExpiry 7) (s true)).chans[7].out = some .enabled ∧
      bodies (after (.holdOffExpiry 7) (s true)) = [.outputRestored 7 .auto] ∧
      (after (.holdOffExpiry 7) (s false)).chans[7].out = some .disabled := by
  decide +kernel

theorem test_capture :
    (active.request .capture (cause 1 1 0 3)).pos.shiftLeft = some 2600 ∧
      bodies ((shifting .reset 9 0).request .capture (cause 1 1 0 3)) = [.captureOverrun .shifting 3] ∧
      (at' .leaving).request .capture (cause 1 1 0 3) = at' .leaving := by
  decide +kernel

/-- An encoder word of 8 Gray-coded bits with a check. -/
def gray8 (c : EncCheck) : EncConfig :=
  { totalBits := 8, validBits := 7, coding := .gray, clock := .mhz1, recoveryMicros := 1, check := c }

/-- A read completes with a shift word. -/
def readOf (g : EncConfig) (word : List Level) : State :=
  after (.encoderReadComplete word) (shifted g word)

theorem test_encoder_read_complete :
    let bits := [true, true, false, false, false, false, false, true]
    (readOf (gray8 .none) bits).pos.absPos = 1 ∧ (readOf (gray8 .none) bits).pos.shiftWord = bits ∧
      (readOf (gray8 .high) (bits ++ [true])).pos.absStamp = some 700 ∧
      (readOf (gray8 .low) (bits ++ [false])).pos.recovery = some 100 ∧
      bodies (readOf (gray8 .low) (bits ++ [true])) = [.encoderFault 0xC1 4] ∧
      after (.encoderReadComplete [true]) (shifted (gray8 .none) bits) = shifted (gray8 .none) bits ∧
      (shifted (gray8 .none) bits).dueEvents = [.encoderReadComplete bits] := by
  decide +kernel

theorem test_edat_sampled :
    let high := after (.pinTransition 8 true) (shifting (gray8 .none) 752 0)
    high.tick.pos.shiftWord = [] ∧ high.tick.tick.pos.shiftWord = [true] ∧
      high.tick.tick.tick.pos.shiftWord = [true] ∧
      (after (.pinTransition 8 false) high.tick).tick.pos.shiftWord = [false] ∧
      (shifting (gray8 .none) 0 0).tick.pos.shiftWord = [] := by
  decide +kernel

theorem test_recovery_expiry :
    let s := shifting (gray8 .none) 0 0
    let t := { s with pos := { s.pos with reader := .recovery, shiftLeft := none, recovery := some 0 } }
    (after .recoveryExpiry t).pos.reader = .idle ∧ (after .recoveryExpiry t).pos.record = none := by
  decide +kernel

/-! ### The hypotheses of the obligations, met together -/

theorem test_hypotheses_of_JoinTaken :
    widest.resetHeld = false ∧ widest.station.mode = .config ∧
      widest.station.cfg.station.toNat ≤ 63 ∧ widest.station.cfg.syncBase.toNat ≤ 2 ∧
      1 ≤ widest.station.cfg.syncMult.toNat ∧ widest.station.cfg.syncMult.toNat ≤ 63 ∧
      1 ≤ widest.station.cfg.limitS.toNat ∧ widest.station.cfg.limitS.toNat ≤ 4095 ∧
      widest.station.cfg.limitS.toNat ≤ widest.station.cfg.limitL.toNat ∧
      widest.station.cfg.lineRate.toNat ≤ 2 ∧ widest.pos.cfg.mode ≠ .off ∧
      widest.chans[0].cfg.direction = .input ∧ widest.chans[1].cfg.direction = .input := by
  decide +kernel

theorem test_hypotheses_of_commands :
    busy.resetHeld = false ∧ busy.station.mode = .active ∧ busy.isOpen = true ∧
      (output7 .disabled).chans[7].out = some .disabled ∧ (injecting 0).isOpen = true ∧
      (injectEvent (injecting 0)).toNat = 4095 ∧ injectScope (injecting 0) = .here ∧
      injectScope (injecting 0x71) = .line ∧ injectPriority (injecting 0x71) = 7 ∧
      (injectEvent (withParams active #v[1, 0, 0, 0, 0, 0, 0, 0])).toNat = 1 := by
  decide +kernel

theorem test_hypotheses_of_stores :
    (at' .config).resetHeld = false ∧ (staged (at' .config) 0x85 0 []).selectedTable = 5 ∧
      (staged (at' .config) 5 0 []).host.tableIndex = 0 ∧ (at' .config).station.mode = .config ∧
      (staged (at' .config) 6 0 []).selectedTable = 6 := by
  decide +kernel

theorem test_hypotheses_of_deliveries :
    (receiving .active).resetHeld = false ∧ (receiving .active).line.rx = .receiving ∧
      (receiving .active).line.attempt = .waitGap ∧
      (receiving .active).line.rxFrame = some { rawStamp := 1000, bytes := [] } ∧
      (readChars (chars (withCrc (syncBytes 5 true 8 (some 8000)))) []).2 = .complete ∧
      validNotice (readChars (chars (withCrc (syncBytes 5 true 8 (some 8000)))) []).1 .complete =
        some (.sync 5 true 8 (some 8000)) ∧
      (readChars (chars [72, 22]) []).2 ≠ .complete ∧
      crcMatches (leaveBytes 7 5 true 0 ++ [0, 0]) = false ∧
      eventZero (withCrc (eventBytes 2 5 true { fullOcc with event := 0 })) = true := by
  decide +kernel

theorem test_hypotheses_of_attempts :
    let s := completing .active (note 5 3 1 true)
    let a := fun k => attempting .active .arbitrating (note 5 3 1 true) k
    let b := 200
    (offering .active [syncNote 0 false]).line.attempt = .waitGap ∧
      (offering .active [syncNote 0 false]).line.rx = .free ∧ (syncNote 0 false).inTx = false ∧
      s.resetHeld = false ∧ s.station.cfg.bitTicks = some b ∧ s.line.attempt = .sending ∧
      s.line.rx = .receiving ∧ s.line.rxFrame = some { rawStamp := 1000, bytes := [] } ∧
      s.line.txq = [] ++ note 5 3 1 true :: [note 9 7 0 false] ∧ (note 5 3 1 true).inTx = true ∧
      (∀ m ∈ ([] : List Notice) ++ [note 9 7 0 false], m.inTx = false) ∧
      s.line.attemptBytes.length = 12 ∧
      s.line.txClock = some (b * (10 * s.line.attemptBytes.length - 1) + b / 2) ∧
      (a 2).line.attempt = .arbitrating ∧
      (a 2).line.txClock = some (b * (10 * (1 / 8) + 1 + 1 % 8) + b / 2) ∧
      sentLevel (a 2).line.attemptBytes 2 = some true ∧
      (a 18).line.txClock = some (b * 18 + b / 2) ∧
      (a 1).line.txClock = some (b * 1 + b / 2) ∧ sentLevel (a 1).line.attemptBytes 1 = some false := by
  decide +kernel

theorem test_hypotheses_of_drain :
    let s := offering .leaving [syncNote 0 true]
    s.resetHeld = false ∧ s.station.mode = .leaving ∧ (∀ n ∈ s.line.txq, n.body = .sync) ∧
      (withLine (at' .leaving) fun l => { l with rx := .free }).line.rx ≠ .off := by
  decide +kernel

theorem test_hypotheses_of_timers :
    (roundEnd .drifted []).resetHeld = false ∧ (roundEnd .drifted []).time.syncTimer = some 0 ∧
      (roundEnd .drifted []).station.mode = .drifted ∧ listenEnd.resetHeld = false ∧
      listenEnd.station.mode = .listen ∧ listenEnd.station.listenTimer = some 0 := by
  decide +kernel

theorem test_hypotheses_of_dispatch :
    (scanning .once true).disp.current = some (occ 7 0 .hostPort) ∧
      (scanning .once true).disp.scanPos = 63 ∧ (scanning .once true).disp.subs[63].armed = true ∧
      (scanning .once true).disp.subs[63].event = 7 ∧
      (scanning .once true).disp.subs[63].filter.admits .hostPort = true ∧
      (scanning .once true).disp.subs[63].policy = .once ∧
      (scanning .every true).disp.subs[63].policy = .every ∧
      (let t := actsLater (scanning .once true) 63 (.latch .absolute 3 none)
       t.disp.underWay.map (fun r => r.action) = some (.latch .absolute 3 none) ∧
         t.disp.underWay.map (fun r => r.sample) = some (t.pos.read .absolute) ∧
         t.disp.underWay.map (fun r => r.actingTime) = some t.time.lineTime ∧
         (after .leave t).isOpen = false) ∧
      active.disp.underWay = none := by
  decide +kernel

theorem test_hypotheses_of_schedule :
    let s := expiring (pulses 0 4 3 none) .on 4 3
    let c := cause 4 1000 0 7
    s.resetHeld = false ∧ s.sched.entries.map (fun e => e.due) = [1000] ∧ s.time.lineTime = 1000 ∧
      later.isOpen = true ∧ 0 < (c.stamp + (1 : BitVec 32).setWidth 48 - later.time.lineTime).toInt ∧
      (c.stamp + (0 : BitVec 32).setWidth 48 - later.time.lineTime).toInt = 0 ∧
      s.chans[0].driven = false := by
  decide +kernel

theorem test_hypotheses_of_field_side :
    (let s := after (.pinTransition 7 true) active
     s.chans[7].sensed ≠ false ∧ s.chans[7].cand = some { stamp := 0, length := 0, left := 0 }) ∧
      (contact.chans[4].sensed ≠ true ∧ contact.chans[4].cand = none) ∧
      (shifting (gray8 .high) 0 0).pos.reader = .shifting ∧
      (shifting (gray8 .high) 0 0).pos.shiftLeft = some 0 ∧
      (shifting (gray8 .high) 0 0).pos.record.map (fun r => r.enc) = some (gray8 .high) ∧
      active.pos.reader = .idle := by
  decide +kernel

theorem test_hypotheses_of_placeNotice :
    [note 2 3 0 false, note 3 4 0 false].Pairwise fun a b => a.priority.toNat ≤ b.priority.toNat := by
  decide +kernel

theorem test_hypotheses_of_gap :
    let s := withLine (receiver .seeking true) fun l => { l with stuckFor := -7 }
    s.resetHeld = false ∧ s.line.rx ≠ .off ∧ s.station.cfg.bitTicks = some 200 ∧ s.line.stuck = true ∧
      (receiver .seeking true).stuckTicks = 0 ∧
      0 ≤ (receiver .seeking true).line.stuckFor ∧ s.line.stuckFor < 0 ∧
      (after (.gap 2200) s).line.stuck = false ∧ (after (.gap 2200) s).choices = 1 := by
  decide +kernel

theorem test_hypotheses_of_ticks :
    (roundEnd .active []).time.syncTimer = some 0 ∧
      (let s := attempting .active .sending (note 5 3 1 true) 3
       s.line.txClock = some 700 ∧ s.station.cfg.bitTicks = some 200) ∧
      (let s := shifting (gray8 .none) 751 0
       s.pos.reader = .shifting ∧ s.pos.shiftLeft = some (750 + 1) ∧ s.pos.record.isSome = true) := by
  decide +kernel

theorem test_hypotheses_of_HostReads :
    let read := after .reportWindow reported
    read.host.transaction = some { dir := .read, next := 0x19 } ∧ read.host.captureLive = true ∧
      read.resetHeld = false ∧ reported.host.reports = ⟨.lineStuck, 3⟩ :: [] ∧
      (after (.registerWrite 0x9F (some 0)) reported).host.transaction =
        some { dir := .read, next := 0x20 } := by
  decide +kernel

/-- The checks of a STORE at the ends of their ranges, one code after the other. -/
theorem test_check_bounds :
    checkBinding (stagingOf [0, 0, 0, 0, 1]) 23 = .error .bindPayload ∧
      checkBinding (stagingOf [0, 0, 1, 0, 1]) 23 = .error .bindPriority ∧
      checkBinding (stagingOf [0, 0x10, 1, 0, 1]) 23 = .error .bindEvent ∧
      (checkBinding (stagingOf [0, 0, 0, 0, 1]) 24).toOption.isSome = true ∧
      checkBinding (stagingOf [0, 0, 0, 0, 1]) 25 = .error .bindPayload ∧
      checkBinding (stagingOf [0, 0, 0, 0, 1]) 26 = .error .bindPayload ∧
      (checkBinding (stagingOf [0, 0, 0, 0, 1]) 27).toOption.isSome = true ∧
      (checkBinding (stagingOf [0, 0, 0, 0, 1]) 31).toOption.isSome = true ∧
      checkSub (stagingOf [0, 0x10, 9, 0, 9, 9]) = .error .subEvent ∧
      checkSub (stagingOf [1, 0, 4, 0, 9, 9]) = .error .subFilter ∧
      checkSub (stagingOf [1, 0, 3, 63, 2, 9]) = .error .subPolicy ∧
      checkSub (stagingOf [1, 0, 3, 63, 1, 7]) = .error .subKind ∧
      checkSub (stagingOf [1, 0, 3, 63, 1, 0]) = .error .subRange ∧
      checkCmp (stagingOf [0, 4, 32]) = .error .cmpRange ∧
      checkCmp (stagingOf [2, 0, 32]) = .error .cmpRange ∧
      (checkChan (stagingOf [0, 63, 0, 1, 1])).toOption.isSome = true ∧
      checkChan (stagingOf [0, 63, 0, 0, 1]) = .error .chanRange ∧
      (checkPos (stagingOf [3, 1, 0, 8, 8, 1, 3, 1, 2])).toOption.isSome = true ∧
      checkPos (stagingOf [4, 1, 0, 8, 8, 1, 3, 1, 2]) = .error .posRange ∧
      checkPos (stagingOf [3, 1, 0, 8, 9, 1, 3, 1, 2]) = .error .posRange := by
  decide +kernel

/-! ### Formats and invariants -/

theorem test_records_read_as_stored :
    (∃ e, checkSub (stagingOf (trainEntry 10000 3 40000)) = .ok e ∧
      checkSub (stagingOf e.bytes) = .ok e) ∧
      (∃ b, checkBinding (stagingOf [0xFF, 0x0F, 1, 7, 1]) 31 = .ok b ∧
        checkBinding (stagingOf b.bytes) 31 = .ok b) ∧
      (∃ g, checkCmp (stagingOf ([1, 3, 32, 1] ++ List.replicate 8 0xA5 ++ [7, 0xFF])) = .ok g ∧
        checkCmp (stagingOf g.bytes) = .ok g) ∧
      (∃ g, checkChan (stagingOf [1, 63, 1, 255, 255, 1]) = .ok g ∧
        checkChan (stagingOf g.bytes) = .ok g) ∧
      (∃ g, checkPos (stagingOf [3, 0xFF, 0, 32, 32, 1, 3, 255, 2]) = .ok g ∧
        checkPos (stagingOf g.bytes) = .ok g) := by
  refine ⟨⟨(after (.store 0) (staged (at' .config) 2 0 (trainEntry 10000 3 40000))).disp.subs[0], ?_⟩,
    ⟨(after (.store 0) (staged (at' .config) 1 31 [0xFF, 0x0F, 1, 7, 1])).disp.bindings[31], ?_⟩,
    ⟨(after (.store 0)
      (staged (at' .config) 3 0 ([1, 3, 32, 1] ++ List.replicate 8 0xA5 ++ [7, 0xFF]))).meas.cmpCfg[0],
      ?_⟩,
    ⟨(after (.store 0) (staged (at' .config) 4 0 [1, 63, 1, 255, 255, 1])).chans[0].cfg, ?_⟩,
    ⟨(after (.store 0) (staged (at' .config) 5 0 [3, 0xFF, 0, 32, 32, 1, 3, 255, 2])).pos.cfg, ?_⟩⟩ <;>
    decide +kernel

/-- A staged LATCH with a publish of scope LINE reads back as it was stored. -/
theorem test_latch_entry_reads_as_stored :
    let e : SubEntry :=
      { event := 51, filter := .station 63, policy := .once, armed := true
        action := .latch .absolute 7 (some { event := 0xFFF, scope := .line, priority := 7 }) }
    checkSub (stagingOf [51, 0, 3, 63, 1, 2, 0, 0, 1, 7, 0x73, 0xFF, 0x0F]) = .ok e ∧
      checkSub (stagingOf e.bytes) = .ok e := by
  decide +kernel

theorem test_reset_bounded : State.reset.Bounded := by
  constructor <;> decide +kernel

theorem test_reset_life_cycle : State.reset.LifeCycle := by
  constructor
  case starting => exact fun h => absurd rfl h
  case driving => exact fun n b h => nomatch h
  all_goals decide +kernel

theorem test_reset_peers_legal : State.reset.PeersLegal := by
  constructor <;> decide +kernel

theorem test_reset_schedule_legal : State.reset.ScheduleLegal ∧ State.reset.ScheduleNear := by
  have none : ∀ {e : SchedEntry} {q : Prop}, e ∈ State.reset.sched.entries → q := fun h => nomatch h
  refine ⟨⟨List.Pairwise.nil, List.Pairwise.nil, fun _ => none, fun _ => none, fun i p h => ?_,
      fun r p h => nomatch h⟩,
    ⟨fun _ => none, fun _ => none, fun _ => none, fun _ => none⟩⟩
  have other : ∀ i : Fin 64, State.reset.disp.subs[i].action = .capture := by decide +kernel
  rw [other i] at h
  exact nomatch h

theorem test_reset_field_legal : State.reset.FieldLegal := by
  constructor
  case channels => intro c; constructor <;> revert c <;> decide +kernel
  case sampled => exact fun r left h => nomatch h
  all_goals decide +kernel

/-- A table and a schedule that are not empty are legal, before a step and after it. -/
theorem test_peers_and_schedule_legal :
    let s :=
      { expiring (pulses 0 4 3 none) .on 4 3 with
        time := { later.time with peers := [peer 3 .absent true 3, peer 9 .absent true 0] } }
    let t := after .timeSnapshot s
    step { s with pending := [.timeSnapshot] } = .next t ∧ s.ScheduleNear ∧ t.PeersLegal ∧ t.ScheduleLegal ∧
      t.ScheduleNear := by
  refine ⟨rfl, ?_, ?_, ?_, ?_⟩
  · constructor <;> decide +kernel
  · constructor <;> decide +kernel
  · constructor
    case drives =>
      intro i p h
      have other : ∀ i : Fin 64, State.reset.disp.subs[i].action = .capture := by decide +kernel
      exact absurd ((other i).symm.trans h) (by simp)
    case underWay => exact fun r p h => nomatch h
    all_goals decide +kernel
  · constructor <;> decide +kernel

/-- The invariants hold and a step answers a next state, from reset with a command waiting. -/
theorem test_step_from_reset :
    goesOn (step { State.reset with pending := [.join] }) ∧
      (after .join State.reset).station.mode = .listen := by
  refine ⟨⟨after .join State.reset, rfl⟩, ?_⟩
  decide +kernel

end Sys2Proof.Tests
end

section
/-! PROOF of O38: what the examination of an entry comes to, and what the taking of each kind of request
comes to. -/

namespace Sys2Proof.Machine

/-! ### A match (R15, R22) -/

theorem matchesOcc_iff (e : SubEntry) (o : Occurrence) :
    e.matchesOcc o = true ↔
      e.armed = true ∧ e.event ≠ 0 ∧ e.event = o.event ∧ e.filter.admits o.origin = true := by
  simp [SubEntry.matchesOcc, and_assoc]

/-! ### The entry that acts (R29, R32) -/

theorem disarmOnce_eq (s : State) (i : Fin 64) :
    s.disarmOnce i =
      s.setDisp
        { s.disp with
          subs :=
            if s.disp.subs[i.val].policy = .once then
              updVec s.disp.subs i fun e => { e with armed := false }
            else s.disp.subs } := by
  unfold State.disarmOnce
  split <;> rfl

theorem examine_of_not_matches {s : State} {i : Fin 64} {o : Occurrence}
    (h : ¬s.disp.subs[i.val].matchesOcc o = true) : s.examine i o = s := by
  simp only [State.examine, h, Bool.false_eq_true, if_false]

theorem examine_of_matches {s : State} {i : Fin 64} {o : Occurrence}
    (h : s.disp.subs[i.val].matchesOcc o = true) :
    s.examine i o =
      (s.disarmOnce i).passOn (s.handOn s.disp.subs[i.val].action (o.causeFor i)) := by
  simp only [State.examine, h, if_true]

/-! ### The examination (R15, log 30) -/

/-- The taking of an earlier entry's request changes no entry (R17). -/
theorem takeUnderWay_subs (s : State) : s.takeUnderWay.disp.subs = s.disp.subs := by
  rw [takeUnderWay_disp]

section Examination

variable {s : State} {o : Occurrence} {i : Fin 64}

theorem exec_entryExamined (hr : s.resetHeld = false) (hc : s.disp.current = some o)
    (hp : s.disp.scanPos = i.val) :
    exec .entryExamined s = .next (s.takeUnderWay.examine i o).advanceScan := by
  have due : s.scanDue = true := by simp [State.scanDue, hc, hp]
  calc exec .entryExamined s
      = .next s.entryExamined := actIf_due _ hr due
    _ = .next (s.takeUnderWay.examine i o).advanceScan := by
        simp only [State.entryExamined, hc, hp, ixOf_val]

theorem exec_entryExamined_passes (hr : s.resetHeld = false) (hc : s.disp.current = some o)
    (hp : s.disp.scanPos = i.val) (hm : ¬s.disp.subs[i.val].matchesOcc o = true) :
    exec .entryExamined s = .next s.takeUnderWay.advanceScan := by
  rw [← takeUnderWay_subs] at hm
  rw [exec_entryExamined hr hc hp, examine_of_not_matches hm]

theorem exec_entryExamined_acts (hr : s.resetHeld = false) (hc : s.disp.current = some o)
    (hp : s.disp.scanPos = i.val) (hm : s.disp.subs[i.val].matchesOcc o = true) :
    let acted := (s.takeUnderWay.disarmOnce i).useChoices 1
    let r := s.takeUnderWay.handOn s.disp.subs[i.val].action (o.causeFor i)
    exec .entryExamined s = .next (acted.takeRequest r).advanceScan ∨
      exec .entryExamined s = .next (acted.leaveUnderWay r).advanceScan := by
  rw [← takeUnderWay_subs] at hm ⊢
  rw [exec_entryExamined hr hc hp, examine_of_matches hm]
  obtain now | later := passOn_cases (s.takeUnderWay.disarmOnce i)
    (s.takeUnderWay.handOn s.takeUnderWay.disp.subs[i.val].action (o.causeFor i))
  · exact Or.inl (by rw [now])
  · exact Or.inr (by rw [later])

end Examination

/-! ### The taking of a request, by its kind (R32 to R41) -/

section TakeRequest

variable {s : State} {r : Request}

theorem takeRequest_drive {p : DriveParams} (h : r.action = .drive p) :
    s.takeRequest r = s.drive p r.cause := by
  simp only [State.takeRequest, h]

theorem takeRequest_cancel {tag : BitVec 4} (h : r.action = .cancel tag) :
    s.takeRequest r = s.cancel tag := by
  simp only [State.takeRequest, h]

theorem takeRequest_latch {src : PosSource} {slot : Fin 8} {d : Option EventDesc}
    (h : r.action = .latch src slot d) :
    s.takeRequest r = s.latchRequest r.cause r.sample r.actingTime src slot d := by
  simp only [State.takeRequest, h]

theorem takeRequest_capture (h : r.action = .capture) :
    s.takeRequest r = s.captureRequest r.cause := by
  simp only [State.takeRequest, h]

theorem takeRequest_compare {k : Fin 2} (h : r.action = .compare k) :
    s.takeRequest r = s.compareRequest r.cause r.sample r.actingTime k := by
  simp only [State.takeRequest, h]

theorem takeRequest_measure {channel : Fin 8} {kind : EdgeSelect} {j : BitVec 4} {slot : Fin 8}
    (h : r.action = .measure channel kind j slot) :
    s.takeRequest r = s.measureRequest r.cause r.edge slot := by
  simp only [State.takeRequest, h]

theorem takeRequest_preset {v : Value32} (h : r.action = .preset v) :
    s.takeRequest r = s.presetPos v := by
  simp only [State.takeRequest, h]

/-- A request of a kind that carries no sample acts, whenever it is taken, as one handed on at that instant. -/
theorem takeRequest_of_no_sample
    (h : (∃ p, r.action = .drive p) ∨ (∃ tag, r.action = .cancel tag) ∨ r.action = .capture ∨
      ∃ v, r.action = .preset v) :
    s.takeRequest r = s.request r.action r.cause := by
  obtain ⟨p, h⟩ | ⟨tag, h⟩ | h | ⟨v, h⟩ := h
  · rw [takeRequest_drive h, h, request_drive]
  · rw [takeRequest_cancel h, h, request_cancel]
  · rw [takeRequest_capture h, h, request_capture]
  · rw [takeRequest_preset h, h, request_preset]

/-- Outside ACTIVE and DRIFTED the schedule, the reader and the comparators discard what reaches them (R93). -/
theorem takeRequest_closed (closed : s.isOpen = false)
    (h : (∃ p, r.action = .drive p) ∨ (∃ tag, r.action = .cancel tag) ∨ r.action = .capture ∨
      ∃ k, r.action = .compare k) :
    s.takeRequest r = s := by
  obtain ⟨p, h⟩ | ⟨tag, h⟩ | h | ⟨k, h⟩ := h
  · simp [takeRequest_drive h, State.drive, closed]
  · simp [takeRequest_cancel h, State.cancel, closed]
  · simp [takeRequest_capture h, State.captureRequest, closed]
  · simp [takeRequest_compare h, State.compareRequest, closed]

end TakeRequest

/-! ### The obligation -/

/-- Settles O38: an examination takes the request under way, then passes the entry over or hands its request
on, by whether it matches; the request is taken by its kind. -/
theorem entryExamined : Obligations.EntryExamined := by
  unfold Obligations.EntryExamined
  refine ⟨?_, fun s => takeUnderWay_none, fun s r => takeUnderWay_some, fun s r =>
    ⟨takeRequest_of_no_sample, ?_, ?_, ?_, ?_, takeRequest_closed⟩⟩
  · intro s o i hr hc hp u e admitted on cause r acted
    have matches_iff : e.matchesOcc o = true ↔ admitted := matchesOcc_iff e o
    have acted_eq : (u.disarmOnce i).useChoices 1 = acted := by
      have policy : u.disp.subs[i.val].policy = e.policy := by rw [takeUnderWay_subs]; rfl
      rw [disarmOnce_eq, policy]
      rfl
    have request_eq : u.handOn e.action (o.causeFor i) = r := by
      have now : u.time.lineTime = s.time.lineTime := by simp [u]
      simp only [State.handOn, now, r]
      cases e.action <;> rfl
    refine ⟨fun h => exec_entryExamined_passes hr hc hp (matches_iff.not.mpr h), fun h => ?_⟩
    rw [← acted_eq, ← request_eq]
    exact exec_entryExamined_acts hr hc hp (matches_iff.mpr h)
  · intro src slot publish h sample now
    rw [takeRequest_latch h, h, request_latch, sample, now]
  · intro k h sample now
    rw [takeRequest_compare h, h, request_compare, sample, now]
    rfl
  · intro channel kind j slot h edge
    rw [takeRequest_measure h, h, request_measure, edge]
    rfl
  · intro src slot h
    rw [takeRequest_latch h]
    rfl

end Sys2Proof.Machine
end

section
/-! PROOF of O39: the origins that each filter admits, and when an entry matches. -/

namespace Sys2Proof.Machine

/-! ### The origins a filter admits (R27), one characterisation per filter -/

theorem admits_any (o : Origin) : OriginFilter.any.admits o = true := rfl

/-- LOCAL admits what did not pass over the line. -/
theorem admits_inside_iff (o : Origin) :
    OriginFilter.inside.admits o = true ↔ ∀ n, o ≠ .station n := by
  cases o <;> simp [OriginFilter.admits]

/-- LINE admits what passed over the line, this station's own notices included. -/
theorem admits_line_iff (o : Origin) :
    OriginFilter.line.admits o = true ↔ ∃ n, o = .station n := by
  cases o <;> simp [OriginFilter.admits]

theorem admits_station_iff (j : StationNo) (o : Origin) :
    (OriginFilter.station j).admits o = true ↔ o = .station j := by
  cases o <;> simp [OriginFilter.admits]

/-! ### What an entry that is not empty, and an empty one, match (R15, R22) -/

theorem matchesOcc_iff_of_event_ne_zero {e : SubEntry} (o : Occurrence) (h : e.event ≠ 0) :
    e.matchesOcc o = true ↔
      e.armed = true ∧ e.event = o.event ∧ e.filter.admits o.origin = true := by
  simp only [matchesOcc_iff, ne_eq, h, not_false_eq_true, true_and]

theorem matchesOcc_of_event_zero {e : SubEntry} (o : Occurrence) (h : e.event = 0) :
    e.matchesOcc o = false := by
  refine Bool.eq_false_iff.mpr fun matched => ?_
  obtain ⟨_, nonempty, _, _⟩ := (matchesOcc_iff e o).mp matched
  exact nonempty h

/-! ### The obligation -/

/-- Settles O39: the table of R27 is read off the characterisation of each filter, and a match off that of
`matchesOcc`. -/
theorem originFilterAdmits : Obligations.OriginFilterAdmits := by
  unfold Obligations.OriginFilterAdmits
  refine ⟨admits_any, fun r e n => ?_, fun _ => matchesOcc_iff_of_event_ne_zero,
    fun _ => matchesOcc_of_event_zero⟩
  -- `false` is read as "not admitted", so that the one lemma of a filter answers its whole row of the table.
  simp [Bool.eq_false_iff, -Bool.not_eq_true, admits_inside_iff, admits_line_iff, admits_station_iff]

end Sys2Proof.Machine
end

section
/-! PROOF of O42: what one update of the output word does to each channel, what the phase of an expired entry
leaves of it, and what follows that phase. -/

namespace Sys2Proof.Machine

/-! ### One update of the output word (R144, R146) -/

theorem Channel.takeLevel_eq (c : Channel) (l : Level) :
    c.takeLevel l =
      { c with
        lastCmd := l
        mismatch :=
          if c.driven then
            if c.sensed = l then none
            else some (c.mismatch.getD (100 * c.cfg.checkDelay.toNat))
          else c.mismatch } := by
  have driven_eq : ({ c with lastCmd := l } : Channel).driven = c.driven := rfl
  have ticks_eq : c.cfg.checkTicks = 100 * c.cfg.checkDelay.toNat := Nat.mul_comm _ _
  simp only [Channel.takeLevel, Channel.recheck, driven_eq, ticks_eq]
  split
  · split <;> rfl
  · rfl

theorem getElem_updateOutputs (s : State) (mask levels : Byte) (c : Fin 8) :
    (s.updateOutputs mask levels).chans[c] =
      if mask.getLsbD c.val then s.chans[c].takeLevel (levels.getLsbD c.val) else s.chans[c] :=
  getElem_mapVec s.chans _ c.val c.isLt

theorem anyUndriven_iff (s : State) (mask : Byte) :
    s.anyUndriven mask = true ↔
      ∃ c : Fin 8, mask.getLsbD c.val = true ∧ s.chans[c].driven = false := by
  simp [State.anyUndriven, List.mem_mapIdx, Fin.exists_iff, -BitVec.getLsbD_eq_getElem]

/-! ### The phase of an entry (R49) -/

theorem SchedEntry.levels_eq (e : SchedEntry) :
    e.levels = if e.phase = .on then e.onLevels else ~~~e.onLevels := by
  unfold SchedEntry.levels
  cases e.phase <;> rfl

/-- The count moves exactly where a masked channel is not driven and it is not yet saturated. -/
theorem afterPhase_eq {s : State} {e : SchedEntry} {x : Byte}
    (up : s.anyUndriven e.mask = true → e.suppressed ≠ 255 → x = e.suppressed + 1)
    (stays : ¬s.anyUndriven e.mask = true ∨ e.suppressed = 255 → x = e.suppressed) :
    e.afterPhase s = { e with suppressed := x } := by
  unfold SchedEntry.afterPhase SchedEntry.countSuppressed
  split
  case isTrue counts =>
    obtain ⟨undriven, below⟩ : s.anyUndriven e.mask = true ∧ e.suppressed ≠ 255 := by
      simpa using counts
    rw [up undriven below]
  case isFalse idle =>
    have unmoved : ¬s.anyUndriven e.mask = true ∨ e.suppressed = 255 := by
      simpa [imp_iff_not_or] using idle
    rw [stays unmoved]

/-! ### What follows the phase (R50, R51, R54) -/

section AfterExpiry

variable {s : State} {e : SchedEntry}

theorem afterExpiry_of_pulse (on : e.phase = .on) (wide : e.width ≠ 0) :
    s.afterExpiry e = s.stampEntry e.offPending := if_pos ⟨on, wide⟩

theorem afterExpiry_of_done (done : e.phase = .off ∨ e.width = 0) :
    s.afterExpiry e = s.repetition e := by
  refine if_neg fun ⟨on, wide⟩ => ?_
  obtain off | flat := done
  · simp [on] at off
  · exact wide flat

theorem repetition_of_inner (inner : 1 < e.innerRem.toNat) :
    s.repetition e = s.stampEntry e.nextPulse := if_pos inner

theorem repetition_of_outer (inner : e.innerRem.toNat ≤ 1) (outer : 1 < e.outerRem.toNat) :
    s.repetition e = s.stampEntry e.nextBurst := by
  rw [State.repetition, if_neg inner.not_gt, if_pos outer]

theorem repetition_of_last (inner : e.innerRem.toNat ≤ 1) (outer : e.outerRem.toNat ≤ 1) :
    s.repetition e = s.endEvent e := by
  rw [State.repetition, if_neg inner.not_gt, if_neg outer.not_gt]

theorem endEvent_none (h : e.endEvent = none) : s.endEvent e = s := by
  simp only [State.endEvent, h]

theorem endEvent_some {d : EventDesc} (h : e.endEvent = some d) :
    s.endEvent e =
      s.derive e.causeGen e.originEntry d
        { event := d.event, stamp := e.due, origin := .entry e.originEntry, gen := e.causeGen
          payload := none, restamped := e.causeRestamped } := by
  simp only [State.endEvent, h]

end AfterExpiry

/-! ### The expiry of the head (R46) -/

theorem scheduleDue_of_head {s : State} {e : SchedEntry} {l : List SchedEntry}
    (head : s.sched.entries = e :: l) (due : (e.due - s.time.lineTime).toInt ≤ 0) :
    s.scheduleDue = true := by
  simpa [State.scheduleDue, head, isLater, timeDiff] using due

/-- The expiry of a due head: it leaves the schedule, its phase is applied, and what follows acts on that. -/
theorem exec_scheduleExpiry {s : State} {e : SchedEntry} {l : List SchedEntry}
    (released : s.resetHeld = false) (head : s.sched.entries = e :: l)
    (due : (e.due - s.time.lineTime).toInt ≤ 0) :
    exec .scheduleExpiry s =
      .next
        (({ s with
            chans := (s.updateOutputs e.mask e.levels).chans
            sched := { s.sched with entries := l } } : State).afterExpiry (e.afterPhase s)) := by
  calc exec .scheduleExpiry s
      = .next s.scheduleExpiry := actIf_due _ released (scheduleDue_of_head head due)
    _ = .next ((s.setSched { s.sched with entries := l }).expireEntry e) := by
        simp only [State.scheduleExpiry, head]

/-! ### The obligation -/

/-- Settles O42: the head's phase leaves the entry with its new count, and what follows is read off its phase, its
width and its remaining counts. -/
theorem scheduleExpires : Obligations.ScheduleExpires := by
  unfold Obligations.ScheduleExpires
  refine ⟨?_, fun s mask levels c => ?_⟩
  · intro s e l released head due levels missed x up stays chans again pulse burst
    let rest : State := { s with chans := chans, sched := { s.sched with entries := l } }
    let counted : SchedEntry := { e with suppressed := x }
    have missed_iff : s.anyUndriven e.mask = true ↔ missed := anyUndriven_iff s e.mask
    have count : e.afterPhase s = counted :=
      afterPhase_eq (fun u => up (missed_iff.mp u)) fun u => stays (u.imp_left missed_iff.not.mp)
    have expires {t : State} (after : rest.afterExpiry counted = t) :
        exec .scheduleExpiry s = .next t := by
      rw [exec_scheduleExpiry released head due, SchedEntry.levels_eq, count, ← after]
    refine ⟨fun on wide => expires (afterExpiry_of_pulse on wide), fun done => ?_⟩
    have repeats {t : State} (next : rest.repetition counted = t) : exec .scheduleExpiry s = .next t :=
      expires ((afterExpiry_of_done (e := counted) done).trans next)
    refine ⟨fun inner => repeats (repetition_of_inner inner),
      fun inner outer => repeats (repetition_of_outer inner outer), fun inner outer => ?_⟩
    have ends {t : State} (closing : rest.endEvent counted = t) : exec .scheduleExpiry s = .next t :=
      repeats ((repetition_of_last (e := counted) inner outer).trans closing)
    exact ⟨fun quiet => ends (endEvent_none quiet), fun d named => ends (endEvent_some named)⟩
  · rw [getElem_updateOutputs, Channel.takeLevel_eq]

end Sys2Proof.Machine
end

section
/-! PROOF of O35: the orders that free choices pick, the mode a round leaves, and the sync round block by
block. -/

namespace Sys2Proof.Machine

/-! ### The orders that free choices pick (log 3, log 11) -/

section Orders

variable {α : Type}

theorem insertAt_eq (l : List α) (n : Nat) (x : α) :
    insertAt l n x = l.take n ++ x :: l.drop n := by
  induction l, n, x using insertAt.induct with
  | case1 n x => simp [insertAt]
  | case2 y l x => rfl
  | case3 y l n x ih => simp [insertAt, ih]

theorem insertAt_perm (l : List α) (n : Nat) (x : α) : (insertAt l n x).Perm (x :: l) := by
  have middle : (l.take n ++ x :: l.drop n).Perm (x :: (l.take n ++ l.drop n)) := List.perm_middle
  rwa [← insertAt_eq, List.take_append_drop] at middle

theorem sublist_insertAt (l : List α) (n : Nat) (x : α) : l.Sublist (insertAt l n x) := by
  have kept : (l.take n ++ l.drop n).Sublist (l.take n ++ x :: l.drop n) :=
    (List.sublist_cons_self x (l.drop n)).append_left (l.take n)
  rwa [← insertAt_eq, List.take_append_drop] at kept

theorem freeOrder_perm (k : Nat) (l : List α) : (freeOrder k l).Perm l := by
  induction l generalizing k with
  | nil => exact .refl []
  | cons x l ih => exact (insertAt_perm _ _ x).trans ((ih (k + 1)).cons x)

theorem mixIn_perm (l : List α) (place : Nat) {extra : List α} (few : extra.length ≤ 1) :
    (mixIn l place extra).Perm (l ++ extra) := by
  match extra, few with
  | [], _ => simp [mixIn]
  | [x], _ => exact (insertAt_perm l _ x).trans (List.perm_append_singleton x l).symm

theorem sublist_mixIn (l : List α) (place : Nat) (extra : List α) :
    l.Sublist (mixIn l place extra) := by
  cases extra with
  | nil => exact .refl l
  | cons x _ => exact sublist_insertAt l _ x

end Orders

/-! ### The parts of a round (R81, R83, R84) -/

theorem PeerOffset.consume_eq (o : PeerOffset) :
    o.consume = match o with | .fresh v => .used v | o => o := by
  cases o <;> rfl

theorem roundPeers_eq (l : List PeerRecord) :
    roundPeers l =
      (l.filter fun r => decide (r.age + 1 < 4)).map fun r =>
        { r with
          age := r.age + 1
          offset := match r.offset with | .fresh v => .used v | o => o } := by
  have stays (r : PeerRecord) : (!decide (Config.ageLimit ≤ r.age + 1)) = decide (r.age + 1 < 4) :=
    decide_not.symm.trans (decide_eq_decide.mpr Nat.not_le)
  simp only [roundPeers, stays, PeerOffset.consume_eq]

theorem roundMode_of_open {mode : StationMode} (h : mode = .active ∨ mode = .drifted)
    (out inn : Nat) (inStep : Bool) :
    roundMode mode out inn inStep =
      if mode = .active then
        if inStep then (.active, 0, inn)
        else if 3 ≤ out + 1 then (.drifted, 0, 0)
        else (.active, out + 1, inn)
      else if inStep then if 2 ≤ inn + 1 then (.active, 0, 0) else (.drifted, out, inn + 1)
      else (.drifted, out, 0) := by
  obtain rfl | rfl := h <;> cases inStep <;> rfl

theorem Notice.isSync_eq (n : Notice) : n.isSync = (n.body == .sync) := by
  unfold Notice.isSync
  cases n.body <;> rfl

theorem placeSync_line (s : State) :
    s.placeSync.line =
      { s.line with
        txq :=
          if s.line.txq.any (fun n => n.body == .sync) then s.line.txq
          else
            placeNotice { body := .sync, priority := 0, errored := 0, inTx := false }
              s.line.txq } := by
  simp only [State.placeSync, ← Notice.isSync_eq]
  split <;> rfl

/-! ### The sync round, block by block (R80 to R84, R133) -/

section Round

variable (s : State)

theorem syncRound_time : s.syncRound.time = s.roundTime := by simp [State.syncRound]

theorem syncRound_station : s.syncRound.station = { s.station with mode := s.roundNext } := by
  simp [State.syncRound]

theorem syncRound_choices : s.syncRound.choices = s.choices + s.time.peers.length + 1 := by
  simp [State.syncRound, Nat.add_assoc]

theorem syncRound_line :
    s.syncRound.line =
      { s.line with
        rxErrors := 0
        txq :=
          if s.line.txq.any (fun n => n.body == .sync) then s.line.txq
          else
            placeNotice { body := .sync, priority := 0, errored := 0, inTx := false }
              s.line.txq } := by
  simp [State.syncRound, placeSync_line, State.clearErrors]

theorem syncRound_host :
    s.syncRound.host =
      { s.host with
        reports :=
          s.allRoundReports.foldl
            (fun q b => pushReport q { body := b, time := s.time.lineTime }) s.host.reports } := by
  simp [State.syncRound, reportAll_reports, State.roundTime]

theorem periodReports_length_le : s.periodReports.length ≤ 1 := by
  unfold State.periodReports
  split <;> simp

theorem allRoundReports_perm : s.allRoundReports.Perm (s.roundReports ++ s.periodReports) :=
  mixIn_perm _ _ (periodReports_length_le s)

theorem roundReports_sublist : s.roundReports.Sublist s.allRoundReports := sublist_mixIn _ _ _

end Round

theorem exec_syncRound {s : State} (released : s.resetHeld = false)
    (due : s.time.syncTimer = some 0) : exec .syncRound s = .next s.syncRound :=
  actIf_due _ released (by simp [State.syncRoundDue, due])

/-! ### The obligation -/

/-- Settles O35: each block of the state after the round is read off its own lemma, and the reports are some
order of PEER_LOST, then SYNC_STATE, with RX_ERRORS put anywhere among them. -/
theorem syncRoundTaken : Obligations.SyncRoundTaken := by
  unfold Obligations.SyncRoundTaken
  intro s released due onLine m small inStep out inn next lost changed errors
  have next_eq : roundMode s.station.mode out inn s.roundInStep = next :=
    roundMode_of_open onLine out inn s.roundInStep
  have mode_eq : s.roundNext = next.1 := congrArg Prod.fst next_eq
  have reports_eq : s.roundReports = freeOrder s.choices lost ++ changed := by
    simp only [State.roundReports, mode_eq]
    rfl
  obtain ⟨disp, sched, chans, pos, meas, held, pending⟩ := s.syncRound_frame
  refine ⟨s.syncRound, exec_syncRound released due, ?_, ?_, syncRound_line s,
    ⟨freeOrder s.choices lost, s.allRoundReports, freeOrder_perm _ _, ?_, ?_, syncRound_host s⟩,
    disp, sched, chans, pos, meas, held.trans released, syncRound_choices s, pending⟩
  · rw [syncRound_time, State.roundTime, roundPeers_eq, ← next_eq]
    rfl
  · rw [syncRound_station, mode_eq]
  · rw [← reports_eq]
    exact allRoundReports_perm s
  · rw [← reports_eq]
    exact roundReports_sublist s

end Sys2Proof.Machine
end

section
/-! PROOF of O9: what each operation of the station leaves in the host port, the checks of JOIN, and what a
taken JOIN leaves in each block. -/

namespace Sys2Proof.Machine

/-! ### What the host port holds after a report, a status and a write (R181, R184, R189) -/

section HostPort

variable (s : State)

@[simp] theorem reportAt_host (time : LineTime) (b : ReportBody) :
    (s.reportAt time b).host =
      { s.host with reports := pushReport s.host.reports { body := b, time := time } } := rfl

@[simp] theorem report_host (b : ReportBody) :
    (s.report b).host =
      { s.host with reports := pushReport s.host.reports { body := b, time := s.time.lineTime } } :=
  rfl

@[simp] theorem taken_host (source : Byte) :
    (s.taken source).host =
      { s.host with status := { source := source, outcome := .taken, detail := 0 } } := rfl

@[simp] theorem clearError_host : s.clearError.host = { s.host with errorCode := .none } := rfl

@[simp] theorem emptyReports_host :
    s.emptyReports.host = { s.host with reports := [], captureLive := false } := rfl

@[simp] theorem hostWrite_host (address : BitVec 7) :
    (s.hostWrite address).host = s.host.writing address := rfl

end HostPort

/-! ### The checks of JOIN (R95) -/

theorem StationConfig.rateOk_of_le {g : StationConfig} (rate : g.lineRate.toNat ≤ 2) :
    g.rateOk = true := by
  obtain h | h | h : g.lineRate = 0 ∨ g.lineRate = 1 ∨ g.lineRate = 2 := by bv_omega
  all_goals simp [StationConfig.rateOk, StationConfig.bitTicks, h]

theorem positionOk_iff (s : State) :
    s.positionOk = true ↔
      s.pos.cfg.mode = .off ∨
        s.chans[0].cfg.direction = .input ∧ s.chans[1].cfg.direction = .input := by
  simp [State.positionOk]

theorem joinCheck_eq_none_iff (s : State) :
    s.joinCheck = none ↔
      s.station.cfg.stationOk = true ∧ s.station.cfg.syncOk = true ∧
        s.station.cfg.limitsOk = true ∧ s.station.cfg.rateOk = true ∧ s.positionOk = true := by
  unfold State.joinCheck
  (repeat' split) <;> simp_all

/-! ### A taken JOIN, block by block (R96) -/

section JoinTaken

variable (s : State)

theorem joinTaken_station :
    s.joinTaken.station =
      { s.station with mode := .listen, listenTimer := some (3 * s.station.cfg.period) } := by
  simp [State.joinTaken, StationConfig.listenTicks]

theorem joinTaken_time :
    s.joinTaken.time = { s.time with peers := [], peerFullReported := false } := by
  simp [State.joinTaken, TimeUnit.emptyPeers]

theorem joinTaken_line :
    s.joinTaken.line =
      { s.line with rx := .seeking, recessiveRun := 0, dominantRun := 0, rxErrors := 0 } := by
  simp [State.joinTaken, LineEngine.startReceiver]

theorem joinTaken_disp :
    s.joinTaken.disp =
      { s.disp with subs := mapVec s.disp.subs fun _ e => { e with armed := true } } := by
  simp [State.joinTaken, State.armAll]

theorem joinTaken_host :
    s.joinTaken.host =
      { s.host with
        errorCode := .none
        status := { source := 1, outcome := .taken, detail := 0 }
        reports :=
          pushReport s.host.reports
            { body := .stateChange .listen .join, time := s.time.lineTime } } := by
  simp [State.joinTaken, TimeUnit.emptyPeers]

end JoinTaken

theorem exec_join {s : State} (released : s.resetHeld = false) :
    exec .join s = .next (s.hostWrite 0x28#7).join :=
  act_released (fun s => (s.hostWrite 0x28#7).join) released

theorem exec_join_of_checks {s : State} (released : s.resetHeld = false)
    (config : s.station.mode = .config) (checks : s.joinCheck = none) :
    exec .join s = .next (s.hostWrite 0x28#7).joinTaken := by
  have writable : (s.hostWrite 0x28#7).inConfig = true := by simp [State.inConfig, config]
  have passed : (s.hostWrite 0x28#7).joinCheck = none := checks
  rw [exec_join released, State.join, writable, passed]
  rfl

/-! ### The obligation -/

/-- Settles O9: the hypotheses are the five checks, so JOIN is taken, and each block is read off its lemma. -/
theorem joinTaken : Obligations.JoinTaken := by
  unfold Obligations.JoinTaken
  intro s released config station base multLow multHigh limitLow limitHigh limits rate position
  have checks : s.joinCheck = none := by
    refine (joinCheck_eq_none_iff s).mpr ⟨?_, ?_, ?_, StationConfig.rateOk_of_le rate,
      (positionOk_iff s).mpr position⟩
    · simpa [StationConfig.stationOk] using station
    · simp [StationConfig.syncOk, base, multLow, multHigh]
    · simp [StationConfig.limitsOk, limitLow, limitHigh, limits, limitLow.trans limits]
  obtain ⟨sched, chans, pos, meas, held, choices, pending⟩ :=
    (s.hostWrite 0x28#7).joinTaken_frame
  exact ⟨_, exec_join_of_checks released config checks, joinTaken_station _, joinTaken_time _,
    joinTaken_line _, joinTaken_disp _, fun i => by simp [joinTaken_disp], joinTaken_host _,
    sched, chans, pos, meas, held.trans released, choices, pending⟩

end Sys2Proof.Machine
end

section
/-! PROOF of O12: the rest level of a channel, what the flush of the schedule leaves, and what a taken LEAVE
leaves in each block. -/

namespace Sys2Proof.Machine

/-! ### The return to the rest level (R145, R146) -/

theorem Channel.toRest_of_input {c : Channel} (h : c.cfg.direction = .input) : c.toRest = c := by
  simp [Channel.toRest, h]

theorem Channel.toRest_of_output {c : Channel} (h : c.cfg.direction = .output) :
    c.toRest =
      { c with
        lastCmd := c.cfg.rest
        mismatch :=
          if c.out = some .enabled then
            if c.sensed = c.cfg.rest then none
            else some (c.mismatch.getD (100 * c.cfg.checkDelay.toNat))
          else c.mismatch } := by
  have driven_iff : c.driven = true ↔ c.out = some .enabled := beq_iff_eq
  simp only [Channel.toRest, h, if_true, Channel.takeLevel_eq, driven_iff]

/-! ### The flush of the schedule (R59) -/

section Flush

variable (s : State)

@[simp] theorem flushSchedule_sched : s.flushSchedule.sched = { s.sched with entries := [] } := by
  simp [State.flushSchedule]

@[simp] theorem getElem_flushSchedule_chans (c : Nat) (h : c < 8) :
    s.flushSchedule.chans[c] = s.chans[c].toRest := by
  simp [State.flushSchedule, State.restOutputs]

@[simp] theorem flushSchedule_host :
    s.flushSchedule.host =
      { s.host with
        reports :=
          pushReport s.host.reports
            { body := .scheduleFlushed s.sched.entries.length, time := s.time.lineTime } } := by
  simp [State.flushSchedule]

end Flush

/-! ### A taken LEAVE, block by block (R99) -/

theorem withdrawSync_eq (q : List Notice) :
    withdrawSync q = q.filter fun n => !(n.isSync && !n.inTx) := by
  simp only [withdrawSync, Bool.not_and, Bool.not_not]

section LeaveTaken

variable (s : State)

theorem leaveTaken_station :
    s.leaveTaken.station =
      { s.station with
        mode := .leaving, listenTimer := none, leaveTimer := some (4 * s.station.cfg.period) } := by
  simp [State.leaveTaken, StationConfig.leaveTicks]

theorem leaveTaken_disp :
    s.leaveTaken.disp = { s.disp with queue := [], current := none, scanPos := 0 } := by
  simp [State.leaveTaken, State.closeDispatch]

theorem leaveTaken_sched : s.leaveTaken.sched = { s.sched with entries := [] } := by
  simp [State.leaveTaken]

theorem leaveTaken_time : s.leaveTaken.time = { s.time with syncTimer := none, slew := 0 } := by
  simp [State.leaveTaken, TimeUnit.stopSync]

theorem leaveTaken_line :
    s.leaveTaken.line =
      { s.line with txq := s.line.txq.filter fun n => !(n.isSync && !n.inTx) } := by
  simp [State.leaveTaken, withdrawSync_eq]

theorem getElem_leaveTaken_chans (c : Fin 8) : s.leaveTaken.chans[c] = s.chans[c].toRest := by
  simp [State.leaveTaken]

theorem leaveTaken_host :
    s.leaveTaken.host =
      { s.host with
        status := { source := 2, outcome := .taken, detail := 0 }
        reports :=
          pushReport
            (pushReport s.host.reports
              { body := .scheduleFlushed s.sched.entries.length, time := s.time.lineTime })
            { body := .stateChange .leaving .leave, time := s.time.lineTime } } := by
  simp [State.leaveTaken, TimeUnit.stopSync]

end LeaveTaken

theorem takesLeave_of_onLine {s : State}
    (onLine : s.station.mode = .listen ∨ s.station.mode = .active ∨ s.station.mode = .drifted) :
    s.takesLeave = true := by
  obtain h | h | h := onLine <;> simp [State.takesLeave, State.isOpen, h]

theorem exec_leave_of_onLine {s : State} (released : s.resetHeld = false)
    (onLine : s.station.mode = .listen ∨ s.station.mode = .active ∨ s.station.mode = .drifted) :
    exec .leave s = .next (s.hostWrite 0x28#7).leaveTaken := by
  have takes : (s.hostWrite 0x28#7).takesLeave = true := takesLeave_of_onLine onLine
  calc exec .leave s
      = .next (s.hostWrite 0x28#7).leave :=
        act_released (fun s => (s.hostWrite 0x28#7).leave) released
    _ = .next (s.hostWrite 0x28#7).leaveTaken := by rw [State.leave, if_pos takes]

/-! ### The obligation -/

/-- Settles O12: LEAVE is taken on the line, and each block is read off its lemma, a channel by its direction. -/
theorem leaveTaken : Obligations.LeaveTaken := by
  unfold Obligations.LeaveTaken
  intro s released onLine
  obtain ⟨pos, meas, held, choices, pending⟩ := (s.hostWrite 0x28#7).leaveTaken_frame
  exact ⟨_, exec_leave_of_onLine released onLine, leaveTaken_station _, leaveTaken_disp _,
    leaveTaken_sched _, leaveTaken_time _, leaveTaken_line _,
    fun c input => (getElem_leaveTaken_chans _ c).trans (Channel.toRest_of_input input),
    fun c output => (getElem_leaveTaken_chans _ c).trans (Channel.toRest_of_output output),
    leaveTaken_host _, pos, meas, held.trans released, choices, pending⟩

end Sys2Proof.Machine
end

section
/-! PROOF of O13: an abandoned read, and what RESTART leaves in each block. -/

namespace Sys2Proof.Machine

/-! ### A read abandoned by RESTART (R165) -/

theorem abandonRead_of_shifting {p : PositionUnit} {r : ReadRecord} (shifting : p.reader = .shifting)
    (record : p.record = some r) :
    p.abandonRead =
      { p with
        reader := .recovery, shiftWord := [], shiftLeft := none
        recovery := some (100 * r.enc.recoveryMicros.toNat) } := by
  have ticks_eq : r.enc.recoveryTicks = 100 * r.enc.recoveryMicros.toNat := Nat.mul_comm _ _
  simp only [PositionUnit.abandonRead, shifting, record, PositionUnit.toRecovery, ticks_eq]

theorem abandonRead_of_not_shifting {p : PositionUnit} (still : p.reader ≠ .shifting) :
    p.abandonRead = p := by
  cases h : p.reader with
  | idle => simp only [PositionUnit.abandonRead, h]
  | shifting => exact absurd h still
  | recovery => simp only [PositionUnit.abandonRead, h]

/-! ### RESTART, block by block (R104) -/

section Restart

variable (s : State)

theorem restart_station :
    s.restart.station = { s.station with mode := .config, listenTimer := none, leaveTimer := none } := by
  simp [State.restart]

theorem restart_time : s.restart.time = { TimeUnit.reset with lineTime := s.time.lineTime } := by
  simp [State.restart, State.restartBlocks, TimeUnit.restart]

theorem restart_line :
    s.restart.line =
      { s.line with
        rx := .off, rxFrame := none, stuck := false, attempt := .waitGap, attemptBytes := []
        txq := [], rxErrors := 0, txl := true, txClock := none, awaitGap := false } := by
  simp [State.restart, State.restartBlocks, LineEngine.off]

theorem restart_disp :
    s.restart.disp =
      { s.disp with
        queue := [], current := none, scanPos := 0
        subs := mapVec s.disp.subs fun _ e => { e with armed := true } } := by
  simp [State.restart, State.restartBlocks, State.closeDispatch, State.armAll]

theorem restart_sched : s.restart.sched = { entries := [], counter := 0 } := by
  simp [State.restart, State.zeroCounter]

theorem getElem_restart_chans (c : Fin 8) :
    s.restart.chans[c] = ({ s.chans[c] with fifo := [] } : Channel).toRest := by
  simp [State.restart, State.restartBlocks, State.emptyFifos]

theorem getElem_restart_chans_of_input {c : Fin 8} (input : s.chans[c].cfg.direction = .input) :
    s.restart.chans[c] = { s.chans[c] with fifo := [] } :=
  (getElem_restart_chans s c).trans (Channel.toRest_of_input input)

theorem getElem_restart_chans_of_output {c : Fin 8} (output : s.chans[c].cfg.direction = .output) :
    s.restart.chans[c] =
      { s.chans[c] with
        fifo := []
        lastCmd := s.chans[c].cfg.rest
        mismatch :=
          if s.chans[c].out = some .enabled then
            if s.chans[c].sensed = s.chans[c].cfg.rest then none
            else some (s.chans[c].mismatch.getD (100 * s.chans[c].cfg.checkDelay.toNat))
          else s.chans[c].mismatch } :=
  (getElem_restart_chans s c).trans (Channel.toRest_of_output output)

theorem restart_pos : s.restart.pos = s.pos.abandonRead := by
  simp [State.restart, State.restartBlocks]

theorem restart_meas :
    s.restart.meas = { s.meas with cmpRun := mapVec s.meas.cmpRun fun _ _ => .cleared } := by
  simp [State.restart, State.restartBlocks, State.clearCmps]

/-- The report queue that RESTART has emptied takes its two reports in their order (R189). -/
theorem pushReport_restart (n : Nat) (time : LineTime) :
    pushReport (pushReport [] { body := .scheduleFlushed n, time := time })
        { body := .stateChange .config .restart, time := time } =
      [{ body := .scheduleFlushed n, time := time },
        { body := .stateChange .config .restart, time := time }] := rfl

theorem restart_host :
    s.restart.host =
      { s.host with
        status := { source := 3, outcome := .taken, detail := 0 }
        captureLive := false
        reports :=
          [{ body := .scheduleFlushed s.sched.entries.length, time := s.time.lineTime },
            { body := .stateChange .config .restart, time := s.time.lineTime }] } := by
  simp [State.restart, State.restartBlocks, TimeUnit.restart, pushReport_restart]

end Restart

theorem exec_restart {s : State} (released : s.resetHeld = false) :
    exec .restart s = .next (s.hostWrite 0x28#7).restart :=
  act_released (fun s => (s.hostWrite 0x28#7).restart) released

/-! ### The obligation -/

/-- Settles O13: RESTART is taken in every station state, and each block is read off its lemma, a channel by its
direction and the reader by whether it is shifting. -/
theorem restartTaken : Obligations.RestartTaken := by
  unfold Obligations.RestartTaken
  intro s released
  let written := s.hostWrite 0x28#7
  obtain ⟨held, choices, pending⟩ := written.restart_frame
  have disp := restart_disp written
  have meas := restart_meas written
  have pos : written.restart.pos = s.pos.abandonRead := restart_pos written
  refine ⟨written.restart, exec_restart released, restart_station _, restart_time _, restart_line _,
    (congrArg DispatchUnit.queue disp :), (congrArg DispatchUnit.current disp :),
    (congrArg DispatchUnit.underWay disp :), (congrArg DispatchUnit.bindings disp :), fun i => ?_,
    restart_sched _, fun c => ?_, pos, fun r shifting record => ?_, fun still => ?_,
    (congrArg MeasureUnit.cmpCfg meas :), (congrArg MeasureUnit.latches meas :),
    (congrArg MeasureUnit.slots meas :), fun k => ?_, restart_host _, held.trans released, choices,
    pending⟩
  · rw [disp]
    exact getElem_mapVec _ _ i.val i.isLt
  · cases direction : s.chans[c].cfg.direction with
    | input =>
      have kept : written.restart.chans[c] = { s.chans[c] with fifo := [] } :=
        getElem_restart_chans_of_input written direction
      simp [kept]
    | output =>
      have rests : written.restart.chans[c] = _ := getElem_restart_chans_of_output written direction
      simp [rests, written]
  · rw [pos, abandonRead_of_shifting shifting record]
    exact ⟨rfl, rfl, record, rfl, rfl, rfl⟩
  · rw [pos, abandonRead_of_not_shifting still]
  · rw [meas]
    exact getElem_mapVec _ _ k.val k.isLt

end Sys2Proof.Machine
end

section
/-! PROOF of O36: the choice at the end of the listen window, the join step block by block, and the report
period that ends with it. -/

namespace Sys2Proof.Machine

/-! ### The choice (R87) -/

/-- The FRESH offsets of the records that are synced, or of those that are not. -/
def freshOf (l : List PeerRecord) (synced : Bool) : List Int :=
  l.filterMap fun r =>
    match r.offset with
    | .fresh v => if r.synced == synced then some v.toInt else none
    | _ => none

theorem freshOffsets_synced (l : List PeerRecord) :
    (freshOffsets l fun r => r.synced) = freshOf l true := by
  refine List.filterMap_congr fun r _ => ?_
  cases r.offset <;> simp [PeerOffset.freshValue]

/-- Where no synced record has a FRESH offset, the FRESH ones are those of the unsynced records. -/
theorem freshOffsets_all {l : List PeerRecord} (none_synced : freshOf l true = []) :
    (freshOffsets l fun _ => true) = freshOf l false := by
  refine List.filterMap_congr fun r member => ?_
  have unsynced := List.filterMap_eq_nil_iff.mp none_synced r member
  cases h : r.offset <;> simp_all [PeerOffset.freshValue]

theorem joinChoice_of_synced {l : List PeerRecord} (some_synced : freshOf l true ≠ []) :
    joinChoice l = { step := median (freshOf l true), mode := .active, founding := false } := by
  simp only [joinChoice, freshOffsets_synced, some_synced, ne_eq, not_false_eq_true, if_true]

theorem joinChoice_of_unsynced {l : List PeerRecord} (none_synced : freshOf l true = [])
    (some_fresh : freshOf l false ≠ []) :
    joinChoice l = { step := median (freshOf l false), mode := .drifted, founding := false } := by
  simp only [joinChoice, freshOffsets_synced, freshOffsets_all none_synced, none_synced, some_fresh,
    ne_eq, not_true_eq_false, not_false_eq_true, if_true, if_false]

theorem joinChoice_of_none {l : List PeerRecord} (none_synced : freshOf l true = [])
    (none_fresh : freshOf l false = []) :
    joinChoice l = { step := 0, mode := .active, founding := true } := by
  simp only [joinChoice, freshOffsets_synced, freshOffsets_all none_synced, none_synced, none_fresh,
    ne_eq, not_true_eq_false, if_false]

/-! ### The report period that ends with the window (R133, log 12) -/

section Period

variable (s : State) (d : BitVec 48)

theorem periodTime_cases :
    s.periodTime d = s.time.lineTime ∨ s.periodTime d = s.time.lineTime + d := by
  unfold State.periodTime
  split
  · exact .inl rfl
  · exact .inr rfl

theorem listenPeriod_line : (s.listenPeriod d).line = { s.line with rxErrors := 0 } := by
  unfold State.listenPeriod
  split
  case isTrue none_counted => rw [← none_counted]
  case isFalse => simp [State.clearErrors]

theorem listenPeriod_host :
    (s.listenPeriod d).host =
      { s.host with
        reports :=
          if s.line.rxErrors = 0 then s.host.reports
          else
            pushReport s.host.reports
              { body := .rxErrors s.line.rxErrors, time := s.periodTime d } } := by
  unfold State.listenPeriod
  split
  · rfl
  · simp

end Period

/-! ### The join step, block by block (R88, R89, R98) -/

section JoinStep

variable (s : State) (c : JoinChoice)

theorem TimeUnit.joinStep_eq (t : TimeUnit) (period : Nat) :
    t.joinStep c period =
      { t with
        lineTime := t.lineTime + BitVec.ofInt 48 c.step, slew := 0
        peers :=
          t.peers.map fun r =>
            { r with
              stamp := r.stamp + BitVec.ofInt 48 c.step
              offset := match r.offset with | .fresh v => .used v | o => o }
        syncTimer := some period, lastMedian := 0, lastInStep := true
        outCount := 0, inCount := 0, alone := c.founding, syncCount := 0, prevEdge := none
        peerFullReported := false } := by
  have consume_eq : PeerOffset.consume = fun o => match o with | .fresh v => .used v | o => o :=
    funext PeerOffset.consume_eq
  simp only [TimeUnit.joinStep, consume_eq]

theorem joinStep_time :
    (s.joinStep c).time = s.time.joinStep c s.station.cfg.period := by
  simp [State.joinStep]

theorem joinStep_station :
    (s.joinStep c).station = { s.station with mode := c.mode, listenTimer := none } := by
  simp [State.joinStep]

theorem joinStep_line :
    (s.joinStep c).line =
      { s.line with
        rxErrors := 0
        rxFrame :=
          s.line.rxFrame.map fun f => { f with rawStamp := f.rawStamp + BitVec.ofInt 48 c.step }
        stuckFor := if s.line.stuck then s.line.stuckFor + c.step else s.line.stuckFor
        txq :=
          if s.line.txq.any (fun n => n.body == .sync) then s.line.txq
          else
            placeNotice { body := .sync, priority := 0, errored := 0, inTx := false }
              s.line.txq } := by
  simp [State.joinStep, placeSync_line, LineEngine.joinStep, passTicks_eq, listenPeriod_line]

theorem Candidate.moveDue_eq (d : BitVec 48) :
    Candidate.moveDue d = fun k => if k.left = 0 then { k with stamp := k.stamp + d } else k := rfl

theorem getElem_joinStep_chans (k : Fin 8) :
    (s.joinStep c).chans[k] =
      { s.chans[k] with
        fifo := []
        cand :=
          s.chans[k].cand.map fun k =>
            if k.left = 0 then { k with stamp := k.stamp + BitVec.ofInt 48 c.step } else k } := by
  simp [State.joinStep, State.stepChannels, Channel.joinStep, Candidate.moveDue_eq]

theorem joinStep_host :
    (s.joinStep c).host =
      { s.host with
        reports :=
          pushReport
            (if s.line.rxErrors = 0 then s.host.reports
             else
              pushReport s.host.reports
                { body := .rxErrors s.line.rxErrors
                  time := s.periodTime (BitVec.ofInt 48 c.step) })
            { body := .stateChange c.mode c.cause
              time := s.time.lineTime + BitVec.ofInt 48 c.step } } := by
  simp [State.joinStep, listenPeriod_host, TimeUnit.joinStep]

end JoinStep

theorem exec_listenWindowExpiry {s : State} (released : s.resetHeld = false)
    (listening : s.station.mode = .listen) (due : s.station.listenTimer = some 0) :
    exec .listenWindowExpiry s = .next (s.joinStep (joinChoice s.time.peers)) :=
  actIf_due State.listenExpiry released (by simp [State.listenDue, listening, due])

/-! ### The obligation -/

/-- Settles O36: the choice is read off the FRESH offsets, and each block of the state after the join step off
its own lemma, for whichever choice it is. -/
theorem listenWindowExpires : Obligations.ListenWindowExpires := by
  unfold Obligations.ListenWindowExpires
  intro s released listening due fresh taken
  have steps {c : JoinChoice} (choice : joinChoice s.time.peers = c) :
      taken c.step c.mode c.cause c.founding := by
    have next := exec_listenWindowExpiry released listening due
    rw [choice] at next
    obtain ⟨disp, sched, pos, meas, held, pending⟩ := s.joinStep_frame c
    exact ⟨s.joinStep c, next, (joinStep_time s c).trans (TimeUnit.joinStep_eq c _ _),
      joinStep_station s c, joinStep_line s c, getElem_joinStep_chans s c,
      ⟨_, periodTime_cases s _, joinStep_host s c⟩, disp, sched, pos, meas, held.trans released, pending⟩
  exact ⟨fun some_synced => (steps (joinChoice_of_synced some_synced) :),
    fun none_synced some_fresh => (steps (joinChoice_of_unsynced none_synced some_fresh) :),
    fun none_synced none_fresh => (steps (joinChoice_of_none none_synced none_fresh) :)⟩

end Sys2Proof.Machine
end

section
/-! SUPPORT. The rules that the proofs of the line's statements share: what the line engine asks of the state,
where an arriving occurrence goes, and what becomes of a transmit queue with one notice in transmission. -/

namespace Sys2Proof.Machine

/-! ### What the line engine asks of the state -/

theorem lasted_iff {g : StationConfig} {b : Nat} (rate : g.bitTicks = some b) (ticks bits : Nat) :
    g.lasted ticks bits = true ↔ bits * b ≤ ticks := by
  simp [StationConfig.lasted, rate]

@[simp] theorem rxOn_iff (s : State) : s.rxOn = true ↔ s.line.rx ≠ .off := by
  simp [State.rxOn]

@[simp] theorem noAttempt_iff (s : State) : s.noAttempt = true ↔ s.line.attempt = .waitGap := by
  simp [State.noAttempt]

@[simp] theorem ownFrame_iff (s : State) :
    s.ownFrame = true ↔ s.line.rx = .receiving ∧ s.line.rxFrame.isSome = true := by
  simp [State.ownFrame]

/-! ### Where an arriving occurrence goes (R12, R13) -/

section Arrival

variable {s : State}

theorem arrive_of_closed (closed : s.isOpen = false) (o : Occurrence) : s.arrive o = s := by
  simp [State.arrive, closed]

theorem arrive_of_room (opened : s.isOpen = true) (room : s.disp.queue.length < 8)
    (o : Occurrence) :
    s.arrive o = { s with disp := { s.disp with queue := s.disp.queue ++ [o] } } := by
  have joins : s.disp.queue.length < Config.dispatchCapacity := room
  simp [State.arrive, opened, joins, State.setDisp]

theorem arrive_of_full (opened : s.isOpen = true) (full : 8 ≤ s.disp.queue.length)
    (o : Occurrence) : s.arrive o = s.report (.dispatchOverflow o.event o.origin) := by
  have overflows : ¬s.disp.queue.length < Config.dispatchCapacity := Nat.not_lt.mpr full
  simp [State.arrive, opened, overflows]

end Arrival

/-! ### A transmit queue with one notice in transmission (R121, R125, R126) -/

section MarkedQueue

variable {pre post : List Notice} {n : Notice}

theorem txNotice_marked (marked : n.inTx = true) (clear : ∀ m ∈ pre ++ post, m.inTx = false) :
    txNotice (pre ++ n :: post) = some n := by
  have before : pre.find? (fun m => m.inTx) = none :=
    List.find?_eq_none.mpr fun m here => by simp [clear m (List.mem_append_left post here)]
  simp [txNotice, before, marked]

theorem filter_marked (keep : Notice → Bool) (marked : n.inTx = true)
    (clear : ∀ m ∈ pre ++ post, m.inTx = false) :
    (pre ++ n :: post).filter (fun m => !m.inTx || keep m) =
      if keep n then pre ++ n :: post else pre ++ post := by
  have before : pre.filter (fun m => !m.inTx || keep m) = pre :=
    List.filter_eq_self.mpr fun m here => by simp [clear m (List.mem_append_left post here)]
  have after : post.filter (fun m => !m.inTx || keep m) = post :=
    List.filter_eq_self.mpr fun m here => by simp [clear m (List.mem_append_right pre here)]
  rw [List.filter_append, List.filter_cons, before, after]
  split <;> simp_all

theorem removeTx_marked (marked : n.inTx = true) (clear : ∀ m ∈ pre ++ post, m.inTx = false) :
    removeTx (pre ++ n :: post) = pre ++ post := by
  simpa [removeTx] using filter_marked (fun _ => false) marked clear

/-- A change of the notice in transmission changes nothing where none is in transmission. -/
theorem map_clear (change : Notice → Notice) {q : List Notice} (clear : ∀ m ∈ q, m.inTx = false) :
    (q.map fun m => if m.inTx then change m else m) = q :=
  (List.map_congr_left (g := id) fun m here => by simp [clear m here]).trans q.map_id

theorem map_marked (change : Notice → Notice) (marked : n.inTx = true)
    (clear : ∀ m ∈ pre ++ post, m.inTx = false) :
    ((pre ++ n :: post).map fun m => if m.inTx then change m else m) = pre ++ change n :: post := by
  have before := map_clear change fun m here => clear m (List.mem_append_left post here)
  have after := map_clear change fun m here => clear m (List.mem_append_right pre here)
  rw [List.map_append, List.map_cons, before, after, if_pos marked]

end MarkedQueue

end Sys2Proof.Machine
end

section
/-! PROOF of O24: when a recessive run is a gap, what the gap makes of the receiver, and what LINE_FREE
carries. -/

namespace Sys2Proof.Machine

section Gap

variable {s : State} {ticks b : Nat}

theorem gapDue_iff (rate : s.station.cfg.bitTicks = some b) :
    s.gapDue ticks = true ↔
      11 * b ≤ ticks ∧ (s.line.rx ≠ .receiving ∨ s.line.attempt = .waitGap) := by
  simp [State.gapDue, lasted_iff rate, Config.gapBits]

/-- The receiver at a gap, each of its states but OFF at once (R110, R112, R132). -/
theorem gapReceiver_eq {l : LineEngine} (on : l.rx ≠ .off) :
    l.gapReceiver =
      { l with
        rx := .free, rxFrame := if l.rx = .free then l.rxFrame else none, awaitGap := false
        rxErrors := if l.rx = .receiving then min (l.rxErrors + 1) 65535 else l.rxErrors } := by
  unfold LineEngine.gapReceiver
  cases h : l.rx with
  | off => exact absurd h on
  | seeking => rfl
  | free =>
    cases l
    subst h
    rfl
  | receiving => rfl

theorem freeLine_of_clear (clear : s.line.stuck = false) : s.freeLine = s := by
  simp [State.freeLine, clear]

theorem freeLine_of_stuck (stuck : s.line.stuck = true) :
    s.freeLine =
      ((s.setLine { s.line with stuck := false }).report (.lineFree s.stuckTicks)).useChoices 1 := by
  simp [State.freeLine, stuck]

theorem stuckTicks_of_nonneg (known : 0 ≤ s.line.stuckFor) :
    s.stuckTicks =
      if s.line.stuckFor < 2 ^ 32 then BitVec.ofInt 32 s.line.stuckFor else 0xFFFFFFFF := by
  obtain ⟨n, n_eq⟩ := Int.eq_ofNat_of_zero_le known
  have fits : 2 ^ 32 ≤ n ↔ ¬(n : Int) < 2 ^ 32 := by omega
  rw [State.stuckTicks, if_neg (Int.not_lt.mpr known), satTicks, n_eq, Int.toNat_natCast]
  simp only [fits, ite_not, BitVec.ofInt_natCast]
  rfl

theorem exec_gap (released : s.resetHeld = false) (on : s.line.rx ≠ .off) (ticks : Nat) :
    exec (.gap ticks) s = .next (s.gap ticks) :=
  actIf_due (fun s => s.gap ticks) released ((rxOn_iff s).mpr on)

theorem gap_of_not_due (short : ¬s.gapDue ticks = true) :
    s.gap ticks = s.setLine (s.line.readRecessive ticks) :=
  if_neg short

theorem gap_of_due (due : s.gapDue ticks = true) :
    s.gap ticks = (s.setLine (s.line.readRecessive ticks).gapReceiver).freeLine :=
  if_pos due

end Gap

/-! ### The obligation -/

/-- Settles O24: a run that is no gap is only read; a gap takes the receiver to FREE, and the flag is then clear
already or is cleared with LINE_FREE, whose number is known where the ticks since the setting are not negative. -/
theorem gapTaken : Obligations.GapTaken := by
  unfold Obligations.GapTaken
  intro s ticks b released on rate run freed
  have next := exec_gap released on ticks
  refine ⟨fun short => ?_, fun long idle => ?_⟩
  · have not_due : ¬s.gapDue ticks = true := by
      rw [gapDue_iff rate]
      rintro ⟨long, idle⟩
      obtain few | ⟨receiving, attempting⟩ := short
      · omega
      · exact idle.elim (· receiving) attempting
    rw [next, gap_of_not_due not_due]
    rfl
  · have due : s.gapDue ticks = true := (gapDue_iff rate).mpr ⟨long, idle⟩
    have receiver : run.gapReceiver = freed := gapReceiver_eq on
    have gap_eq : s.gap ticks = ({ s with line := freed } : State).freeLine :=
      receiver ▸ gap_of_due due
    rw [next, gap_eq]
    refine ⟨fun clear => ?_, fun stuck => ?_⟩
    · rw [freeLine_of_clear (s := { s with line := freed }) clear]
    · refine ⟨({ s with line := freed } : State).stuckTicks, ?_, stuckTicks_of_nonneg⟩
      rw [freeLine_of_stuck (s := { s with line := freed }) stuck]
      rfl

end Sys2Proof.Machine
end

section
/-! PROOF of O25: when a start edge begins a frame, and when a dominant run sets the line-stuck flag. -/

namespace Sys2Proof.Machine

/-! ### The start edge (R110, R111) -/

section StartEdge

variable {s : State}

theorem clockFromEdge_eq (l : LineEngine) :
    l.clockFromEdge = if l.attempt = .waitGap then none else some 0 := by
  unfold LineEngine.clockFromEdge
  cases l.attempt <;> rfl

theorem startEdge_begins (free : s.line.rx = .free) :
    s.startEdge false =
      { s with
        line :=
          { s.line with
            rx := .receiving, recessiveRun := 0
            rxFrame := some { rawStamp := s.time.lineTime, bytes := [] }
            txClock := if s.line.attempt = .waitGap then none else some 0 } } := by
  rw [← clockFromEdge_eq]
  exact if_pos ⟨free, rfl⟩

theorem startEdge_discarded {startSample : Level}
    (not_begun : ¬(s.line.rx = .free ∧ startSample = false)) :
    s.startEdge startSample = { s with line := { s.line with recessiveRun := 0 } } :=
  if_neg not_begun

theorem exec_startEdge (released : s.resetHeld = false) (on : s.line.rx ≠ .off)
    (startSample : Level) :
    exec (.startEdge startSample) s = .next (s.startEdge startSample) :=
  actIf_due (fun s => s.startEdge startSample) released ((rxOn_iff s).mpr on)

end StartEdge

/-! ### The stuck line (R118) -/

section StuckLine

variable {s : State} {ticks b : Nat}

theorem stuckDue_iff (rate : s.station.cfg.bitTicks = some b) :
    s.stuckDue ticks = true ↔
      25 * b ≤ ticks ∧ s.line.stuck = false ∧ s.line.rx = .seeking ∧ s.line.attempt = .waitGap := by
  simp [State.stuckDue, lasted_iff rate, Config.stuckBits, and_assoc]

theorem lineStuck_of_due (due : s.stuckDue ticks = true) :
    s.lineStuck ticks = (s.setLine (s.line.readDominant ticks)).stickLine :=
  if_pos due

theorem lineStuck_of_not_due (not_due : ¬s.stuckDue ticks = true) :
    s.lineStuck ticks = s.setLine (s.line.readDominant ticks) :=
  if_neg not_due

theorem exec_lineStuck (released : s.resetHeld = false) (on : s.line.rx ≠ .off) (ticks : Nat) :
    exec (.lineStuck ticks) s = .next (s.lineStuck ticks) :=
  actIf_due (fun s => s.lineStuck ticks) released ((rxOn_iff s).mpr on)

end StuckLine

/-! ### The obligation -/

/-- Settles O25: an edge begins a frame exactly where the receiver is FREE and the start bit samples dominant,
and a dominant run sets the flag exactly where `stuckDue_iff` says so. -/
theorem startEdgeAndStuckLine : Obligations.StartEdgeAndStuckLine := by
  unfold Obligations.StartEdgeAndStuckLine
  intro s released on
  refine ⟨fun free => ?_, ?_, fun busy => ?_, fun ticks b rate => ⟨fun met => ?_, fun unmet => ?_⟩⟩
  · rw [exec_startEdge released on, startEdge_begins free]
  · rw [exec_startEdge released on, startEdge_discarded (by simp)]
  · rw [exec_startEdge released on, startEdge_discarded (by simp [busy])]
  · rw [exec_lineStuck released on, lineStuck_of_due ((stuckDue_iff rate).mpr met)]
    rfl
  · rw [exec_lineStuck released on, lineStuck_of_not_due (mt (stuckDue_iff rate).mp unmet)]
    rfl

end Sys2Proof.Machine
end

section
/-! SUPPORT. The end of a frame of another station, which the proofs of O26 to O28 share. -/

namespace Sys2Proof.Machine

section FrameEnd

variable {s : State} {f : RxFrame} {chars : List CharSample}

theorem exec_frameEnd (released : s.resetHeld = false) (receiving : s.line.rx = .receiving)
    (idle : s.line.attempt = .waitGap) (frame : s.line.rxFrame = some f) :
    exec (.frameEnd chars) s = .next (s.frameEnd f chars) := by
  have due : s.frameDue = true := by simp [State.frameDue, receiving, idle]
  show execFrameEnd chars s = .next (s.frameEnd f chars)
  simp only [execFrameEnd, frame, actIf_due (fun s => s.frameEnd f chars) released due]

/-- A valid notice is delivered with the receiver already SEEKING (R112, R134, R135). -/
theorem frameEnd_of_valid {r : Received} (complete : (readChars chars f.bytes).2 = .complete)
    (valid : validNotice (readChars chars f.bytes).1 .complete = some r) :
    s.frameEnd f chars =
      ({ s with line := { s.line with rx := .seeking, rxFrame := none } } : State).deliver
        (f.rawStamp + s.station.cfg.lineDelay.setWidth 48) r := by
  simp only [State.frameEnd, complete, valid]
  rfl

theorem exec_frameEnd_of_valid {r : Received} (released : s.resetHeld = false)
    (receiving : s.line.rx = .receiving) (idle : s.line.attempt = .waitGap)
    (frame : s.line.rxFrame = some f) (complete : (readChars chars f.bytes).2 = .complete)
    (valid : validNotice (readChars chars f.bytes).1 .complete = some r) :
    exec (.frameEnd chars) s =
      .next
        (({ s with line := { s.line with rx := .seeking, rxFrame := none } } : State).deliver
          (f.rawStamp + s.station.cfg.lineDelay.setWidth 48) r) := by
  rw [exec_frameEnd released receiving idle frame, frameEnd_of_valid complete valid]

end FrameEnd

end Sys2Proof.Machine
end

section
/-! PROOF of O26: what the delivery of an EVENT and of a LEAVE comes to. -/

namespace Sys2Proof.Machine

section TakeLeave

variable {s : State} {n : StationNo}

/-- A LEAVE notice reaches the peer time table in every station state but CONFIG (R77, R134). -/
theorem takesLeaveNotice_iff (s : State) :
    (s.takesSync || s.station.mode == .leaving) = true ↔ s.station.mode ≠ .config := by
  simp only [State.takesSync, State.isOpen]
  cases s.station.mode <;> decide

theorem takeLeave_of_known (onLine : s.station.mode ≠ .config)
    (known : (findPeer s.time.peers n).isSome = true) :
    s.takeLeave n =
      ({ s with
        time := { s.time with peers := s.time.peers.filter fun r => r.station != n } } : State).report
        (.peerLost n .left) := by
  unfold State.takeLeave
  rw [(takesLeaveNotice_iff s).mpr onLine, known]
  rfl

theorem takeLeave_of_unknown
    (nothing : s.station.mode = .config ∨ (findPeer s.time.peers n).isSome = false) :
    s.takeLeave n = s := by
  have not_taken :
      ¬((s.takesSync || s.station.mode == .leaving) && (findPeer s.time.peers n).isSome) = true := by
    rw [Bool.and_eq_true, takesLeaveNotice_iff]
    rintro ⟨onLine, known⟩
    exact nothing.elim onLine (by simp [known])
  exact if_neg not_taken

end TakeLeave

/-! ### The obligation -/

/-- Settles O26: the frame's end delivers the notice, an EVENT arrives or overflows or meets a closed queue, and
a LEAVE finds its sender's record or none. -/
theorem eventAndLeaveDelivered : Obligations.EventAndLeaveDelivered := by
  unfold Obligations.EventAndLeaveDelivered
  intro s f chars released receiving idle frame complete got edge read reported
  have delivers {r : Received} (valid : got = some r) :
      exec (.frameEnd chars) s = .next (read.deliver edge r) :=
    exec_frameEnd_of_valid released receiving idle frame complete valid
  refine ⟨fun n synced e gen carried payload valid => ?_, fun n reason valid => ?_⟩
  · intro o
    have arrives : exec (.frameEnd chars) s = .next (read.arrive o) := delivers valid
    rw [arrives]
    refine ⟨fun opened room => ?_, fun opened full => ?_, fun closed => ?_⟩
    · rw [arrive_of_room (s := read) opened room]
    · rw [arrive_of_full (s := read) opened full]
      rfl
    · rw [arrive_of_closed (s := read) closed]
  · have leaves : exec (.frameEnd chars) s = .next (read.takeLeave n) := delivers valid
    rw [leaves]
    refine ⟨fun onLine known => ?_, fun nothing => ?_⟩
    · rw [takeLeave_of_known (s := read) onLine known]
      rfl
    · rw [takeLeave_of_unknown (s := read) nothing]

end Sys2Proof.Machine
end

section
/-! PROOF of O28: why a frame spells no notice, and that a malformed one is never complete. -/

namespace Sys2Proof.Machine

theorem validNotice_eq_none {l : List Byte} {e : FrameEnding}
    (invalid : e ≠ .complete ∨ crcMatches l = false ∨ eventZero l = true) :
    validNotice l e = none := by
  refine if_neg ?_
  rintro ⟨complete, crc, not_zero⟩
  obtain cut | mismatch | zero := invalid
  · exact cut complete
  · exact absurd crc (by simp [mismatch])
  · exact not_zero zero

/-- A frame that spells no notice leaves its trace in the receiver and the error count alone (R132). -/
theorem frameEnd_of_invalid {s : State} {f : RxFrame} {chars : List CharSample}
    (invalid :
      validNotice (readChars chars f.bytes).1 (readChars chars f.bytes).2 = none) :
    s.frameEnd f chars =
      { s with
        line :=
          { s.line with
            rx := if (readChars chars f.bytes).2 = .gap then .free else .seeking
            awaitGap := if (readChars chars f.bytes).2 = .gap then false else s.line.awaitGap
            rxFrame := none, rxErrors := min (s.line.rxErrors + 1) 65535 } } := by
  simp only [State.frameEnd, invalid]
  cases (readChars chars f.bytes).2 <;> rfl

theorem not_frameComplete_of_malformed {l : List Byte} (bad : malformed l = true) :
    frameComplete l = false := by
  simp [frameComplete, expectedLength, bad]

theorem readChars_malformed (chars : List CharSample) (got : List Byte)
    (bad : malformed (readChars chars got).1 = true) : (readChars chars got).2 ≠ .complete := by
  induction chars, got using readChars.induct with
  | case1 got => simp [readChars]
  | case2 c cs got framing => simp [readChars, framing]
  | case3 c cs got sound complete =>
    rw [readChars, if_neg sound, if_pos complete] at bad
    exact absurd complete (by simp [not_frameComplete_of_malformed bad])
  | case4 c cs got sound more ih =>
    rw [readChars, if_neg sound, if_neg more] at bad ⊢
    exact ih bad

/-! ### The obligation -/

/-- Settles O28: a frame that spells no notice is only counted, and a complete frame is not malformed. -/
theorem frameDiscarded : Obligations.FrameDiscarded := by
  unfold Obligations.FrameDiscarded
  refine ⟨fun s f chars released receiving idle frame => ?_, readChars_malformed⟩
  intro r invalid
  rw [exec_frameEnd released receiving idle frame, frameEnd_of_invalid (validNotice_eq_none invalid)]

end Sys2Proof.Machine
end

section
/-! PROOF of O27: which record is the oldest, and what the taking of a SYNC comes to, by the station state, the
station number and the place of the sender in the peer time table. -/

namespace Sys2Proof.Machine

/-! ### The oldest record (R75) -/

section Oldest

variable {x y old : PeerRecord} {l : List PeerRecord}

theorem oldestPeer_cons_of_none (rest : oldestPeer l = none) :
    oldestPeer (x :: l) = if 2 ≤ x.age then some x else none := by
  simp [oldestPeer, rest]

theorem oldestPeer_cons_of_some (rest : oldestPeer l = some y) :
    oldestPeer (x :: l) = if 2 ≤ x.age ∧ y.age ≤ x.age then some x else some y := by
  simp [oldestPeer, rest]

theorem oldestPeer_mem (found : oldestPeer l = some old) : old ∈ l ∧ 2 ≤ old.age := by
  induction l with
  | nil => simp [oldestPeer] at found
  | cons x l ih =>
    cases rest : oldestPeer l with
    | none =>
      rw [oldestPeer_cons_of_none rest] at found
      split at found <;> simp_all
    | some y =>
      rw [oldestPeer_cons_of_some rest] at found
      split at found <;> simp_all

theorem oldestPeer_eq_none_iff : oldestPeer l = none ↔ ∀ r ∈ l, r.age < 2 := by
  induction l with
  | nil => simp [oldestPeer]
  | cons x l ih =>
    cases rest : oldestPeer l with
    | none =>
      rw [oldestPeer_cons_of_none rest, List.forall_mem_cons, and_iff_left (ih.mp rest)]
      simp
    | some y =>
      obtain ⟨y_mem, y_old⟩ := oldestPeer_mem rest
      have some_old : ¬∀ r ∈ x :: l, r.age < 2 := fun young =>
        Nat.not_lt.mpr y_old (young y (List.mem_cons_of_mem x y_mem))
      rw [oldestPeer_cons_of_some rest]
      split <;> simp only [reduceCtorEq, some_old]

/-- In a table in ascending station number no record is older than the oldest, and none of its age has a lower
station number (R75, log 22). -/
theorem oldestPeer_first (sorted : l.Pairwise fun a b => a.station.toNat < b.station.toNat)
    (found : oldestPeer l = some old) :
    ∀ r ∈ l, r.age < old.age ∨ (r.age = old.age ∧ old.station.toNat ≤ r.station.toNat) := by
  induction l generalizing old with
  | nil => simp
  | cons x l ih =>
    obtain ⟨x_first, sorted_rest⟩ := List.pairwise_cons.mp sorted
    rw [List.forall_mem_cons]
    cases rest : oldestPeer l with
    | none =>
      have young := oldestPeer_eq_none_iff.mp rest
      rw [oldestPeer_cons_of_none rest] at found
      split at found
      · obtain rfl : x = old := Option.some.inj found
        exact ⟨.inr ⟨rfl, le_rfl⟩, fun r r_mem => .inl (by have := young r r_mem; omega)⟩
      · cases found
    | some y =>
      have y_age := (oldestPeer_mem rest).2
      have y_first := ih sorted_rest rest
      rw [oldestPeer_cons_of_some rest] at found
      split at found
      · obtain rfl : x = old := Option.some.inj found
        refine ⟨.inr ⟨rfl, le_rfl⟩, fun r r_mem => ?_⟩
        have := x_first r r_mem
        have := y_first r r_mem
        omega
      · obtain rfl : y = old := Option.some.inj found
        exact ⟨.inl (by omega), y_first⟩

end Oldest

/-! ### The taking of a SYNC (R73 to R76) -/

section TakeSync

variable {s : State} {n : StationNo} {seq : Byte} {synced : Bool} {stamp : LineTime}
  {prev : Option LineTime}

theorem takesSync_iff (s : State) :
    s.takesSync = true ↔ s.station.mode ≠ .config ∧ s.station.mode ≠ .leaving := by
  simp only [State.takesSync, State.isOpen]
  cases s.station.mode <;> decide

theorem takeSync_of_closed (closed : s.station.mode = .config ∨ s.station.mode = .leaving) :
    s.takeSync n seq synced stamp prev = s := by
  have not_taken : ¬s.takesSync = true := by
    rw [takesSync_iff]
    tauto
  simp [State.takeSync, not_taken]

theorem takeSync_of_own (takes : s.takesSync = true) (own : n.setWidth 8 = s.station.cfg.station) :
    s.takeSync n seq synced stamp prev = s.report (.stationClash seq) := by
  simp [State.takeSync, takes, own]

/-- The pair of a SYNC with the record of its sender (R73). -/
theorem PeerRecord.takeSync_eq (r : PeerRecord) (seq : Byte) (synced : Bool) (stamp : LineTime)
    (prev : Option LineTime) :
    r.takeSync seq synced stamp prev =
      { r with
        stamp := stamp, seq := seq, synced := synced, age := 0
        offset :=
          match prev with
          | some t => if r.seq = seq - 1 then .fresh (t - r.stamp) else .absent
          | none => .absent } := by
  cases prev <;> rfl

section OtherStation

variable (takes : s.takesSync = true) (other : n.setWidth 8 ≠ s.station.cfg.station)

include takes other

theorem takeSync_of_known (known : (findPeer s.time.peers n).isSome = true) :
    s.takeSync n seq synced stamp prev =
      s.setPeers (updatePeer s.time.peers n fun r => r.takeSync seq synced stamp prev) := by
  simp [State.takeSync, takes, other, known]

theorem takeSync_of_room (unknown : (findPeer s.time.peers n).isSome = false)
    (room : s.time.peers.length < 24) :
    s.takeSync n seq synced stamp prev = s.createPeer n seq synced stamp := by
  have below : s.time.peers.length < Config.peerCapacity := room
  simp [State.takeSync, takes, other, unknown, below]

theorem takeSync_of_full (unknown : (findPeer s.time.peers n).isSome = false)
    (full : 24 ≤ s.time.peers.length) :
    s.takeSync n seq synced stamp prev = s.replacePeer n seq synced stamp := by
  have not_below : ¬s.time.peers.length < Config.peerCapacity := Nat.not_lt.mpr full
  simp [State.takeSync, takes, other, unknown, not_below]

end OtherStation

theorem replacePeer_of_old {old : PeerRecord} (found : oldestPeer s.time.peers = some old) :
    s.replacePeer n seq synced stamp =
      ((s.setPeers (removePeer s.time.peers old.station)).report
        (.peerLost old.station .replaced)).createPeer n seq synced stamp := by
  simp [State.replacePeer, found]

theorem replacePeer_of_reported (young : oldestPeer s.time.peers = none)
    (reported : s.time.peerFullReported = true) : s.replacePeer n seq synced stamp = s := by
  simp [State.replacePeer, young, reported]

theorem replacePeer_of_unreported (young : oldestPeer s.time.peers = none)
    (unreported : s.time.peerFullReported = false) :
    s.replacePeer n seq synced stamp =
      (s.setTime { s.time with peerFullReported := true }).report (.peerTableFull n) := by
  simp [State.replacePeer, young, unreported]

end TakeSync

/-! ### The obligation -/

/-- Settles O27: the frame's end hands the SYNC to the peer time table, each case of the table by its lemma; the
oldest record is characterised on a table in ascending station number. -/
theorem syncDelivered : Obligations.SyncDelivered := by
  unfold Obligations.SyncDelivered
  intro s f chars n synced q prev released receiving idle frame complete valid edge read reported fresh
  have next : exec (.frameEnd chars) s = .next (read.takeSync n q synced edge prev) :=
    exec_frameEnd_of_valid released receiving idle frame complete valid
  rw [next]
  refine ⟨fun closed => ?_, fun not_config not_leaving => ?_, fun l sorted => ?_⟩
  · rw [takeSync_of_closed (s := read) closed]
  · have takes : read.takesSync = true := (takesSync_iff read).mpr ⟨not_config, not_leaving⟩
    refine ⟨fun own => ?_, fun other => ⟨fun known => ?_, fun unknown room => ?_, fun unknown full => ?_⟩⟩
    · rw [takeSync_of_own takes own]
      rfl
    · rw [takeSync_of_known takes other known]
      simp only [PeerRecord.takeSync_eq]
      rfl
    · rw [takeSync_of_room takes other unknown room]
      rfl
    · rw [takeSync_of_full takes other unknown full]
      refine ⟨fun old found => ?_, fun young reported => ?_, fun young unreported => ?_⟩
      · rw [replacePeer_of_old (s := read) found]
        rfl
      · rw [replacePeer_of_reported (s := read) young reported]
      · rw [replacePeer_of_unreported (s := read) young unreported]
        rfl
  · refine ⟨oldestPeer_eq_none_iff, fun old found => ?_⟩
    obtain ⟨old_mem, old_age⟩ := oldestPeer_mem found
    exact ⟨old_mem, old_age, oldestPeer_first sorted found⟩

end Sys2Proof.Machine
end

section
/-! PROOF of O29: when an attempt begins, and what it makes of the queue's head. -/

namespace Sys2Proof.Machine

section AttemptBegin

variable {s : State} {n : Notice} {q : List Notice}

theorem txOn_iff (s : State) :
    s.txOn = true ↔
      s.station.mode = .active ∨ s.station.mode = .drifted ∨ s.station.mode = .leaving := by
  simp [State.txOn, State.isOpen, or_assoc]

theorem attemptDue_iff (s : State) :
    s.attemptDue = true ↔
      s.txOn = true ∧ s.line.attempt = .waitGap ∧ s.line.rx = .free ∧ s.line.awaitGap = false ∧
        (headNotice s.line.txq).isSome = true := by
  simp [State.attemptDue, and_assoc]

theorem headNotice_of_clear (clear : n.inTx = false) : headNotice (n :: q) = some n := by
  simp [headNotice, clear]

theorem markHead_of_clear (clear : n.inTx = false) :
    markHead (n :: q) = { n with inTx := true } :: q := by
  simp [markHead, clear]

theorem attemptBegin_of_head (head : s.line.txq = n :: q) (clear : n.inTx = false) :
    s.attemptBegin =
      { s with
        line :=
          { s.line with
            attempt := .arbitrating, attemptBytes := s.noticeBytes n
            txq := { n with inTx := true } :: q, txl := false } } := by
  simp [State.attemptBegin, head, headNotice_of_clear clear, markHead_of_clear clear, State.setLine]

theorem exec_attemptBegin (released : s.resetHeld = false) (due : s.attemptDue = true) :
    exec .attemptBegin s = .next s.attemptBegin :=
  actIf_due State.attemptBegin released due

theorem exec_attemptBegin_of_not_due (not_due : s.attemptDue = false) :
    exec .attemptBegin s = .next s :=
  actIf_not_due s State.attemptBegin not_due

end AttemptBegin

/-! ### The obligation -/

/-- Settles O29: but for the wait for a gap the hypotheses are the conditions of an attempt, and the head is the
first notice, whose mark is clear. -/
theorem attemptBegins : Obligations.AttemptBegins := by
  unfold Obligations.AttemptBegins
  intro s n q released onLine idle free head clear
  have offered : (headNotice s.line.txq).isSome = true := by
    rw [head, headNotice_of_clear clear]
    rfl
  refine ⟨fun no_wait => ?_, fun waits => ?_, fun sync => ?_, fun o event => ?_, fun reason leave => ?_⟩
  · have due : s.attemptDue = true :=
      (attemptDue_iff s).mpr ⟨(txOn_iff s).mpr onLine, idle, free, no_wait, offered⟩
    rw [exec_attemptBegin released due, attemptBegin_of_head head clear]
  · exact exec_attemptBegin_of_not_due (by simp [State.attemptDue, waits])
  · simp only [State.noticeBytes, State.syncedNow, StationConfig.ownNumber, sync]
  · simp only [State.noticeBytes, State.syncedNow, StationConfig.ownNumber, event]
  · simp only [State.noticeBytes, State.syncedNow, StationConfig.ownNumber, leave]

end Sys2Proof.Machine
end

section
/-! PROOF of O31: at which samples a bit error is taken, what it leaves of the transmit queue, and what follows the
third. -/

namespace Sys2Proof.Machine

/-! ### The samples of a bit error (R109, R114, R115, log 5) -/

section Samples

variable {s : State} {sample b : Nat}

theorem samples_middle (rate : s.station.cfg.bitTicks = some b)
    (middle : s.line.txClock = some (b * sample + b / 2)) : s.samples sample = true := by
  simp [State.samples, sampleNow_middle rate middle]

theorem errorDue_of_sending (rate : s.station.cfg.bitTicks = some b)
    (middle : s.line.txClock = some (b * sample + b / 2)) (sending : s.line.attempt = .sending)
    (own : s.ownFrame = true) (arbitrated : 18 < sample)
    (inFrame : sample < 10 * s.line.attemptBytes.length) : s.errorDue sample = true := by
  have behind : dataBitSample 15 < sample := arbitrated
  simp [State.errorDue, samples_middle rate middle, sending, State.sendErrorAt, own, behind, inFrame]

/-- A start or stop bit, or a data bit sent dominant (R114). -/
theorem not_contested {l : List Byte}
    (fixed : sample % 10 = 0 ∨ sample % 10 = 9 ∨ sentLevel l sample = some false) :
    (isDataSample sample && sentLevel l sample == some true) = false := by
  obtain start | stop | dominant := fixed
  · simp [isDataSample, start]
  · simp [isDataSample, stop]
  · simp [dominant]

theorem errorDue_of_arbitrating (rate : s.station.cfg.bitTicks = some b)
    (middle : s.line.txClock = some (b * sample + b / 2))
    (arbitrating : s.line.attempt = .arbitrating) (own : s.ownFrame = true) (started : 1 ≤ sample)
    (arbitrated : sample ≤ 18)
    (fixed : sample % 10 = 0 ∨ sample % 10 = 9 ∨ sentLevel s.line.attemptBytes sample = some false) :
    s.errorDue sample = true := by
  have later : sample ≠ 0 := Nat.ne_of_gt started
  have within : sample < dataBitSample 15 + 1 := Nat.lt_succ_of_le arbitrated
  simp only [State.errorDue, samples_middle rate middle, arbitrating, State.arbErrorAt, if_neg later,
    within, own, not_contested fixed]
  rfl

/-- The start bit of byte 0, where it has made no start edge (R110). -/
theorem errorDue_of_start (arbitrating : s.line.attempt = .arbitrating) (free : s.line.rx = .free) :
    s.errorDue 0 = true := by
  simp [State.errorDue, State.samples, State.arbErrorAt, arbitrating, free]

end Samples

/-! ### The notice after an errored attempt (R123, R125) -/

section Errored

variable {s : State} {sample : Nat} {pre post : List Notice} {n : Notice}

theorem lastTry_iff (n : Notice) : n.lastTry = true ↔ 2 ≤ n.errored := by
  simp [Notice.lastTry, Config.erroredLimit]

theorem keepsNotice_iff (s : State) (n : Notice) :
    s.keepsNotice n = true ↔ ¬(s.station.mode = .leaving ∧ n.body = .sync) := by
  simp [State.keepsNotice, Notice.isSync_eq, imp_iff_not_or]

theorem countErrored_of_kept (marked : n.inTx = true) (clear : ∀ m ∈ pre ++ post, m.inTx = false)
    (few : n.errored < 2) (kept : ¬(s.station.mode = .leaving ∧ n.body = .sync)) :
    s.countErrored (pre ++ n :: post) =
      pre ++ { n with inTx := false, errored := n.errored + 1 } :: post := by
  have stays : (s.keepsNotice n && !n.lastTry) = true := by
    rw [(keepsNotice_iff s n).mpr kept, Bool.true_and, Bool.not_eq_true', ← Bool.not_eq_true, lastTry_iff]
    exact Nat.not_le.mpr few
  rw [State.countErrored, filter_marked _ marked clear, if_pos stays, map_marked _ marked clear]

theorem countErrored_of_dropped (marked : n.inTx = true) (clear : ∀ m ∈ pre ++ post, m.inTx = false)
    (dropped : s.station.mode = .leaving ∧ n.body = .sync ∨ 2 ≤ n.errored) :
    s.countErrored (pre ++ n :: post) = pre ++ post := by
  have leaves : ¬(s.keepsNotice n && !n.lastTry) = true := by
    rw [Bool.and_eq_true, Bool.not_eq_true', ← Bool.not_eq_true, keepsNotice_iff, lastTry_iff]
    rintro ⟨kept, few⟩
    exact dropped.elim kept few
  rw [State.countErrored, filter_marked _ marked clear, if_neg leaves, map_clear _ clear]

theorem bitError_of_marked (queue : s.line.txq = pre ++ n :: post) (marked : n.inTx = true)
    (clear : ∀ m ∈ pre ++ post, m.inTx = false) (sample : Nat) :
    let ended :=
      s.setLine
        { s.line.dropAttempt (sample / 10) with txq := s.countErrored s.line.txq, awaitGap := true }
    s.bitError sample = if 2 ≤ n.errored then ended.abandon n else ended := by
  simp only [State.bitError, queue, txNotice_marked marked clear, lastTry_iff]

theorem exec_bitError (released : s.resetHeld = false) (due : s.errorDue sample = true) :
    exec (.bitError sample) s = .next (s.bitError sample) :=
  actIf_due (fun s => s.bitError sample) released due

end Errored

theorem abandon_of_sync {n : Notice} (sync : n.body = .sync) (s : State) : s.abandon n = s := by
  simp [State.abandon, sync]

theorem abandon_of_event {n : Notice} {o : Occurrence} (event : n.body = .event o) (s : State) :
    s.abandon n = s.report (.eventLost o.event .abandoned) := by
  simp [State.abandon, event]

theorem abandon_of_leave {n : Notice} {reason : Byte} (leave : n.body = .leave reason) (s : State) :
    s.abandon n = s.enterConfig .leaveAbandoned := by
  simp [State.abandon, leave]

/-! ### The obligation -/

/-- Settles O31: the samples named are those at which a bit error is taken; the queue keeps the notice with its
count or loses it, and at the third errored attempt its kind says what follows. -/
theorem bitErrorTaken : Obligations.BitErrorTaken := by
  unfold Obligations.BitErrorTaken
  intro s sample b pre post n released rate sampled place queue marked clear ended
  have middle (receiving : s.line.rx = .receiving) : s.line.txClock = some (b * sample + b / 2) :=
    sampled.resolve_right (by simp [receiving])
  have due : s.errorDue sample = true := by
    obtain ⟨sending, receiving, frame, arbitrated, inFrame⟩ |
      ⟨arbitrating, receiving, frame, started, arbitrated, fixed⟩ | ⟨arbitrating, free, rfl⟩ := place
    · exact errorDue_of_sending rate (middle receiving) sending
        ((ownFrame_iff s).mpr ⟨receiving, frame⟩) arbitrated inFrame
    · exact errorDue_of_arbitrating rate (middle receiving) arbitrating
        ((ownFrame_iff s).mpr ⟨receiving, frame⟩) started arbitrated fixed
    · exact errorDue_of_start arbitrating free
  have error := bitError_of_marked queue marked clear sample
  have dropped (gone : s.station.mode = .leaving ∧ n.body = .sync ∨ 2 ≤ n.errored) :
      s.bitError sample =
        if 2 ≤ n.errored then (ended (pre ++ post)).abandon n else ended (pre ++ post) := by
    rw [error, queue, countErrored_of_dropped marked clear gone]
    rfl
  rw [exec_bitError released due]
  refine ⟨fun few kept => ?_, fun sync gone => ?_, fun o event last => ?_, fun reason leave last => ?_⟩
  · rw [error, queue, countErrored_of_kept marked clear few kept, if_neg (Nat.not_le.mpr few)]
    rfl
  · rw [dropped (gone.imp_left (⟨·, sync⟩)), abandon_of_sync sync, ite_self]
  · rw [dropped (.inr last), if_pos last, abandon_of_event event]
  · rw [dropped (.inr last), if_pos last, abandon_of_leave leave]

end Sys2Proof.Machine
end

section
/-! PROOF of O32: the end of the own frame, and what the completion hands on by the kind of the notice. -/

namespace Sys2Proof.Machine

section Complete

variable {s : State} {f : RxFrame} {b : Nat} {pre post : List Notice} {n : Notice}

theorem completeDue_of_lastStop (rate : s.station.cfg.bitTicks = some b)
    (lastStop : s.line.txClock = some (b * (10 * s.line.attemptBytes.length - 1) + b / 2))
    (sending : s.line.attempt = .sending) (own : s.ownFrame = true) : s.completeDue = true := by
  simp [State.completeDue, sending, own, sampleNow_middle rate lastStop]

theorem exec_attemptComplete (released : s.resetHeld = false) (frame : s.line.rxFrame = some f)
    (due : s.completeDue = true) : exec .attemptComplete s = .next (s.attemptComplete f) := by
  show execAttemptComplete s = .next (s.attemptComplete f)
  simp only [execAttemptComplete, frame, actIf_due (fun s => s.attemptComplete f) released due]

theorem attemptComplete_of_marked (queue : s.line.txq = pre ++ n :: post) (marked : n.inTx = true)
    (clear : ∀ m ∈ pre ++ post, m.inTx = false) (f : RxFrame) :
    s.attemptComplete f =
      ({ s with
        line :=
          { s.line with
            rx := .seeking, rxFrame := none, attempt := .waitGap, attemptBytes := []
            txq := pre ++ post, txl := true, txClock := none } } : State).completed f.rawStamp n := by
  simp only [State.attemptComplete, LineEngine.completeAttempt, queue, txNotice_marked marked clear,
    removeTx_marked marked clear]
  rfl

end Complete

theorem completed_of_sync {n : Notice} (sync : n.body = .sync) (s : State) (raw : LineTime) :
    s.completed raw n =
      { s with
        time := { s.time with prevEdge := some raw, syncCount := s.time.syncCount + 1 } } := by
  simp only [State.completed, sync]
  rfl

theorem completed_of_event {n : Notice} {o : Occurrence} (event : n.body = .event o) (s : State)
    (raw : LineTime) :
    s.completed raw n =
      s.arrive { o with origin := .station (s.station.cfg.station.setWidth 6) } := by
  simp only [State.completed, event]
  rfl

theorem completed_of_leave {n : Notice} {reason : Byte} (leave : n.body = .leave reason) (s : State)
    (raw : LineTime) : s.completed raw n = s.enterConfig .left := by
  simp only [State.completed, leave]

/-! ### The obligation -/

/-- Settles O32: the line engine is done with the frame whatever its kind, and the kind says what is handed on. -/
theorem attemptCompletes : Obligations.AttemptCompletes := by
  unfold Obligations.AttemptCompletes
  intro s f b pre post n released rate lastStop sending receiving frame queue marked clear ended
  have own : s.ownFrame = true := (ownFrame_iff s).mpr ⟨receiving, by simp [frame]⟩
  have completes : exec .attemptComplete s = .next (ended.completed f.rawStamp n) := by
    rw [exec_attemptComplete released frame (completeDue_of_lastStop rate lastStop sending own),
      attemptComplete_of_marked queue marked clear]
  rw [completes]
  refine ⟨fun sync => ?_, fun o event => ?_, fun reason leave => ?_⟩
  · rw [completed_of_sync sync]
  · intro own
    rw [completed_of_event event]
    refine ⟨fun opened room => ?_, fun opened full => ?_, fun closed => ?_⟩
    · rw [arrive_of_room (s := ended) opened room]
    · rw [arrive_of_full (s := ended) opened full]
    · rw [arrive_of_closed (s := ended) closed]
  · rw [completed_of_leave leave]

end Sys2Proof.Machine
end

section
/-! PROOF of O49: the edge of a due change, what the counting of one leaves of a channel, where the edge goes
when its channel is an input, and the counting of IO0 and IO1 as a pair. -/

namespace Sys2Proof.Machine

/-! ### The edge of a due change (R139 to R142) -/

section DueEdge

variable {ch : Channel} {e : Edge}

theorem Channel.dueEdge_isSome (ch : Channel) : ch.dueEdge.isSome = ch.countDue := by
  unfold Channel.dueEdge Channel.countDue
  cases ch.cand with
  | none => rfl
  | some k => by_cases expired : k.left = 0 <;> simp [expired]

theorem Channel.kind_of_dueEdge (due : ch.dueEdge = some e) :
    e.kind = if ch.sensed then .rise else .fall := by
  unfold Channel.dueEdge at due
  split at due
  · obtain ⟨-, made⟩ := Option.ite_none_right_eq_some.mp due
    cases made
    rfl
  · cases due

theorem edgeRow_of_dueEdge (c : Fin 8) (due : ch.dueEdge = some e) :
    edgeRow c e.kind = if ch.sensed then ⟨c.val, by omega⟩ else ⟨8 + c.val, by omega⟩ := by
  rw [Channel.kind_of_dueEdge due]
  cases ch.sensed <;> rfl

theorem Channel.acceptChange_of_dueEdge (due : ch.dueEdge = some e) :
    ch.acceptChange e =
      { ch with
        filtered := ch.sensed, cand := none, fifo := (e :: ch.fifo).take 16
        rises := if ch.sensed then ch.rises + 1 else ch.rises
        falls := if ch.sensed then ch.falls else ch.falls + 1 } := by
  unfold Channel.acceptChange
  rw [Channel.kind_of_dueEdge due]
  cases ch.sensed <;> rfl

end DueEdge

/-! ### The change accepted (R140 steps 1 and 2) -/

theorem updVec_congr {α : Type} {n : Nat} {v : Vector α n} {i : Fin n} {f g : α → α}
    (same : f v[i] = g v[i]) : updVec v i f = updVec v i g :=
  congrArg (fun x => v.set i.val x i.isLt) same

theorem updVec_of_fixed {α : Type} {n : Nat} {v : Vector α n} {i : Fin n} {f : α → α}
    (fixed : f v[i] = v[i]) : updVec v i f = v :=
  (updVec_congr (g := id) fixed).trans (Vector.set_getElem_self i.isLt)

section Accept

variable {s : State} {c : Fin 8} {e : Option Edge}

/-- A change of one channel that agrees there with the acceptance of an edge is that acceptance. -/
theorem acceptEdge_of_agrees {f : Channel → Channel}
    (counts : ∀ k, e = some k → f s.chans[c] = s.chans[c].acceptChange k)
    (keeps : e = none → f s.chans[c] = s.chans[c]) :
    s.acceptEdge c e = { s with chans := updVec s.chans c f } := by
  cases e with
  | none => rw [updVec_of_fixed (keeps rfl)]; rfl
  | some k => rw [updVec_congr (g := fun ch => ch.acceptChange k) (counts k rfl)]; rfl

theorem acceptEdge_chans_of_ne {d : Fin 8} (other : c ≠ d) :
    (s.acceptEdge c e).chans[d] = s.chans[d] := by
  cases e with
  | none => rfl
  | some k => simp [State.acceptEdge, Fin.val_ne_of_ne other]

theorem acceptEdge_cfg (d : Fin 8) : (s.acceptEdge c e).chans[d].cfg = s.chans[d].cfg := by
  cases e with
  | none => rfl
  | some k =>
    simp only [State.acceptEdge, State.setChan_chans, Fin.getElem_fin, getElem_updVec]
    split <;> rfl

end Accept

/-! ### The edge of an input: the position unit and the row (R140 steps 3 and 4, R143) -/

section Input

variable {s t : State} {c : Fin 8}

theorem handable_congr (same : t.chans[c].cfg = s.chans[c].cfg) (e : Option Edge) :
    t.handable c e = s.handable c e :=
  congrArg (fun g : ChanConfig => if g.direction = .input then e else none) same

theorem of_handable_eq_some {e : Option Edge} {k : Edge} (handed : s.handable c e = some k) :
    e = some k :=
  (Option.ite_none_right_eq_some.mp handed).2

theorem fireEdge_of_handable {e : Option Edge} {k : Edge} (handed : s.handable c e = some k) :
    s.fireEdge c e = s.fireRow (edgeRow c k.kind) k.stamp none := by
  obtain ⟨input, rfl⟩ := Option.ite_none_right_eq_some.mp handed
  exact if_pos input

theorem fireEdge_of_not_handable {e : Option Edge} (kept : s.handable c e = none) :
    s.fireEdge c e = s := by
  cases e with
  | none => rfl
  | some k =>
    have no_input : ¬s.chans[c.val].cfg.direction = .input := fun input => by
      simp [State.handable, input] at kept
    exact if_neg no_input

theorem handEdges_eq (s : State) (e0 e1 : Option Edge) :
    s.handEdges e0 e1 =
      if s.handable 0 e0 = none ∧ s.handable 1 e1 = none then s
      else
        s.takeHandOver
          { io0 := s.handable 0 e0, io1 := s.handable 1 e1
            new0 := s.chans[0].filtered, new1 := s.chans[1].filtered } := by
  unfold State.handEdges
  cases s.handable 0 e0 <;> cases s.handable 1 e1 <;> simp

end Input

/-! ### The counting of one channel, and of IO0 and IO1 (R140, R143, log 15) -/

section Count

variable {s : State} {c : Fin 8}

theorem exec_edgeCounted (released : s.resetHeld = false)
    (due : s.chans[c].dueEdge.isSome = true) :
    exec (.edgeCounted c.val) s = .next (s.countEdge c) := by
  rw [Channel.dueEdge_isSome] at due
  calc exec (.edgeCounted c.val) s
      = actIf s.chans[c].countDue s fun s => s.countEdge c := by
        simp only [exec, execEdgeCounted, ixOf_val, Fin.getElem_fin]
    _ = .next (s.countEdge c) := actIf_due _ released due

/-- Both of IO0 and IO1 accepted and handed over, before a row is consulted. -/
def State.pairHanded (s : State) : State :=
  ((s.acceptEdge 0 s.chans[0].dueEdge).acceptEdge 1 s.chans[1].dueEdge).handEdges
    s.chans[0].dueEdge s.chans[1].dueEdge

/-- The row of the channel named is consulted before the other's (log 15). -/
theorem countEdge_of_pair {d : Fin 8} (pair : c = 0 ∧ d = 1 ∨ c = 1 ∧ d = 0) :
    s.countEdge c = (s.pairHanded.fireEdge c s.chans[c].dueEdge).fireEdge d s.chans[d].dueEdge := by
  obtain ⟨rfl, rfl⟩ | ⟨rfl, rfl⟩ := pair
  · rfl
  · rfl

theorem countEdge_of_two_le (alone : 2 ≤ c.val) :
    s.countEdge c = (s.acceptEdge c s.chans[c].dueEdge).fireEdge c s.chans[c].dueEdge := by
  have not_io0 : c.val ≠ 0 := by omega
  have not_io1 : c.val ≠ 1 := by omega
  simp only [State.countEdge, not_io0, not_io1, if_false, Fin.getElem_fin]

theorem pairHanded_cfg (s : State) (c : Fin 8) :
    s.pairHanded.chans[c].cfg = s.chans[c].cfg := by
  simp only [State.pairHanded, State.handEdges_frame, acceptEdge_cfg]

end Count

/-! ### The obligation -/

/-- Settles O49: the statement's edge, acceptance and firing are the model's, whose directions no step of the
counting changes. -/
theorem edgeCountedTaken : Obligations.EdgeCountedTaken := by
  unfold Obligations.EdgeCountedTaken
  intro s released edge counted handed row fire
  have edge_eq (c : Fin 8) : edge c = s.chans[c].dueEdge := rfl
  have handed_eq (c : Fin 8) : handed c = s.handable c s.chans[c].dueEdge := rfl
  have accept_eq (t : State) (c : Fin 8) (same : t.chans[c] = s.chans[c]) :
      { t with chans := updVec t.chans c (counted c) } = t.acceptEdge c s.chans[c].dueEdge := by
    refine (acceptEdge_of_agrees (fun k due => ?_) fun kept => ?_).symm
    · rw [same, Channel.acceptChange_of_dueEdge due]
      simp only [counted, edge_eq, due]
    · simp only [counted, edge_eq, kept]
  have fire_eq (t : State) (c : Fin 8) (same : t.chans[c].cfg = s.chans[c].cfg) :
      fire t c = t.fireEdge c s.chans[c].dueEdge := by
    have here := handable_congr same s.chans[c].dueEdge
    cases handing : s.handable c s.chans[c].dueEdge with
    | none =>
      rw [fireEdge_of_not_handable (here.trans handing)]
      simp only [fire, handed_eq, handing]
    | some k =>
      rw [fireEdge_of_handable (here.trans handing),
        edgeRow_of_dueEdge c (of_handable_eq_some handing)]
      simp only [fire, handed_eq, handing, row]
  refine ⟨fun c alone due => ?_, ?_⟩
  · rw [exec_edgeCounted released due, countEdge_of_two_le alone, accept_eq s c rfl,
      fire_eq _ c (acceptEdge_cfg c)]
  · intro both moved
    have both_eq : both = (s.acceptEdge 0 (edge 0)).acceptEdge 1 (edge 1) := by
      have apart : (0 : Fin 8) ≠ 1 := by decide
      rw [edge_eq, edge_eq, ← accept_eq _ 1 (acceptEdge_chans_of_ne apart), ← accept_eq s 0 rfl]
    have both_handable (c : Fin 8) : both.handable c (edge c) = handed c :=
      handable_congr (by rw [both_eq, acceptEdge_cfg, acceptEdge_cfg]) _
    have moved_eq : moved = s.pairHanded := by
      calc moved = both.handEdges (edge 0) (edge 1) := by
            rw [handEdges_eq, both_handable, both_handable]
        _ = s.pairHanded := by rw [both_eq]; rfl
    have pair_counted (c d : Fin 8) (pair : c = 0 ∧ d = 1 ∨ c = 1 ∧ d = 0)
        (due : (edge c).isSome = true) :
        exec (.edgeCounted c.val) s = .next (fire (fire moved c) d) := by
      rw [exec_edgeCounted released due, countEdge_of_pair pair, moved_eq,
        fire_eq _ c (pairHanded_cfg s c), fire_eq _ d]
      simp only [State.fireEdge_frame, pairHanded_cfg]
    exact ⟨pair_counted 0 1 (.inl ⟨rfl, rfl⟩), pair_counted 1 0 (.inr ⟨rfl, rfl⟩)⟩

end Sys2Proof.Machine
end

section
/-! PROOF of O45: the offset that a PRESET sets makes the incremental position its value. -/

namespace Sys2Proof.Machine

/-! ### The preset position (R158, R159) -/

/-- Both counters drop out of the position again, whatever the signs make of them. -/
theorem incremental_preset (p : PositionUnit) (v : Value32) : (p.preset v).incremental = v := by
  let a := p.cfg.signA.times p.cntA
  let b := p.cfg.signB.times p.cntB
  calc (p.preset v).incremental
      = a + b + (v - a - b) := rfl
    _ = a + b + (v - (a + b)) := by rw [sub_sub]
    _ = v := add_sub_cancel _ _

/-! ### The obligation -/

/-- Settles O45: the request is the preset of the position unit, which `incremental_preset` reads back. -/
theorem presetTaken : Obligations.PresetTaken := by
  unfold Obligations.PresetTaken
  refine ⟨fun s v c => ⟨?_, ?_⟩, fun x => ⟨rfl, rfl, rfl⟩⟩
  · rw [request_preset]
    rfl
  · rw [request_preset]
    exact incremental_preset s.pos v

end Sys2Proof.Machine
end

section
/-! PROOF of O50: what a hand-over adds to the counters in each position mode, the quadrature cycle, and the
stamp of an illegal transition. -/

namespace Sys2Proof.Machine

/-! ### The quadrature cycle (R157) -/

theorem forwardOf_eq (x : Level × Level) :
    forwardOf x =
      if x = (false, false) then (true, false)
      else if x = (true, false) then (true, true)
      else if x = (true, true) then (false, true)
      else (false, false) := by
  revert x
  decide

theorem forwardOf_ne (x : Level × Level) : forwardOf x ≠ x := by
  revert x
  decide

section Cycle

variable {x y : Level × Level}

/-- The cycle is longer than two, so a step along it is none against it. -/
theorem forwardOf_ne_of_forwardOf_eq (along : forwardOf x = y) : forwardOf y ≠ x := by
  subst along
  revert x
  decide

theorem forwardOf_keeps_one (along : forwardOf x = y) : x.1 = y.1 ∨ x.2 = y.2 := by
  subst along
  revert x
  decide

end Cycle

/-! ### The flags of a hand-over (R156, R157) -/

theorem isRise_iff (e : Option Edge) :
    isRise e = true ↔ ∃ t, e = some { kind := .rise, stamp := t } := by
  obtain _ | ⟨_ | _, t⟩ := e <;> simp [isRise]

theorem isRise_eq_false_iff (e : Option Edge) :
    isRise e = false ↔ ¬∃ t, e = some { kind := .rise, stamp := t } := by
  rw [← isRise_iff, Bool.not_eq_true]

theorem illegal_iff (p : PositionUnit) (h : HandOver) :
    p.illegal h = true ↔ p.cfg.mode = .quadrature ∧ p.pair0 ≠ h.new0 ∧ p.pair1 ≠ h.new1 := by
  simp [PositionUnit.illegal, and_assoc]

theorem illegal_eq_false_iff (p : PositionUnit) (h : HandOver) :
    p.illegal h = false ↔ p.cfg.mode ≠ .quadrature ∨ p.pair0 = h.new0 ∨ p.pair1 = h.new1 := by
  rw [← Bool.not_eq_true, illegal_iff]
  tauto

/-! ### What a hand-over adds, by the mode (R155 to R157) -/

/-- The unit with its three counts gone up by these, and the level pair as handed over. -/
def PositionUnit.gaining (p : PositionUnit) (h : HandOver) (a b : Value32) (errors : Byte) :
    PositionUnit :=
  { p with
    cntA := p.cntA + a, cntB := p.cntB + b, quadErrors := p.quadErrors + errors
    pair0 := h.new0, pair1 := h.new1 }

/-- What a count goes up by: one where the hand-over counts in it. -/
def gain {w : Nat} (counts : Bool) : BitVec w := if counts then 1 else 0

theorem if_add_one_eq_add_gain {w : Nat} (counts : Bool) (n : BitVec w) :
    (if counts then n + 1 else n) = n + gain counts := by
  cases counts with
  | true => rfl
  | false => exact (add_zero n).symm

section Counting

variable {p : PositionUnit} {h : HandOver}

theorem counted_eq_gaining (p : PositionUnit) (h : HandOver) :
    p.counted h = p.gaining h (gain (p.upA h)) (gain (p.upB h)) (gain (p.illegal h)) := by
  simp only [PositionUnit.counted, PositionUnit.gaining, if_add_one_eq_add_gain]

/-- What is counted where no transition can be illegal. -/
theorem counted_of_not_quadrature (mode : p.cfg.mode ≠ .quadrature) :
    p.counted h = p.gaining h (gain (p.upA h)) (gain (p.upB h)) 0 := by
  rw [counted_eq_gaining, (illegal_eq_false_iff p h).mpr (.inl mode)]
  rfl

theorem counted_of_off (mode : p.cfg.mode = .off) : p.counted h = p.gaining h 0 0 0 := by
  rw [counted_of_not_quadrature (by simp [mode]), PositionUnit.upA, PositionUnit.upB, mode]
  rfl

theorem counted_of_edge (mode : p.cfg.mode = .edge) :
    p.counted h = p.gaining h (gain (isRise h.io0)) (gain (isRise h.io1)) 0 := by
  rw [counted_of_not_quadrature (by simp [mode]), PositionUnit.upA, PositionUnit.upB, mode]

theorem counted_of_updown (mode : p.cfg.mode = .updown) :
    p.counted h =
      p.gaining h (gain (isRise h.io0 && !p.pair1)) (gain (isRise h.io0 && p.pair1)) 0 := by
  rw [counted_of_not_quadrature (by simp [mode]), PositionUnit.upA, PositionUnit.upB, mode]

theorem counted_of_quadrature (mode : p.cfg.mode = .quadrature) :
    p.counted h =
      p.gaining h (gain (forwardOf (p.pair0, p.pair1) == (h.new0, h.new1)))
        (gain (forwardOf (h.new0, h.new1) == (p.pair0, p.pair1))) (gain (p.illegal h)) := by
  rw [counted_eq_gaining, PositionUnit.upA, PositionUnit.upB, mode]

/-! ### The four changes of the level pair in QUADRATURE (R157) -/

theorem counted_of_forward (mode : p.cfg.mode = .quadrature)
    (along : forwardOf (p.pair0, p.pair1) = (h.new0, h.new1)) :
    p.counted h = p.gaining h 1 0 0 := by
  have legal : p.illegal h = false :=
    (illegal_eq_false_iff p h).mpr (.inr (forwardOf_keeps_one along))
  rw [counted_of_quadrature mode, beq_iff_eq.mpr along,
    beq_eq_false_iff_ne.mpr (forwardOf_ne_of_forwardOf_eq along), legal]
  rfl

theorem counted_of_backward (mode : p.cfg.mode = .quadrature)
    (against : forwardOf (h.new0, h.new1) = (p.pair0, p.pair1)) :
    p.counted h = p.gaining h 0 1 0 := by
  have legal : p.illegal h = false :=
    (illegal_eq_false_iff p h).mpr (.inr ((forwardOf_keeps_one against).imp Eq.symm Eq.symm))
  rw [counted_of_quadrature mode, beq_iff_eq.mpr against,
    beq_eq_false_iff_ne.mpr (forwardOf_ne_of_forwardOf_eq against), legal]
  rfl

theorem counted_of_illegal (mode : p.cfg.mode = .quadrature) (first : p.pair0 ≠ h.new0)
    (second : p.pair1 ≠ h.new1) : p.counted h = p.gaining h 0 0 1 := by
  have not_along : forwardOf (p.pair0, p.pair1) ≠ (h.new0, h.new1) := fun along =>
    (forwardOf_keeps_one along).elim first second
  have not_against : forwardOf (h.new0, h.new1) ≠ (p.pair0, p.pair1) := fun against =>
    (forwardOf_keeps_one against).elim first.symm second.symm
  have illegal : p.illegal h = true := (illegal_iff p h).mpr ⟨mode, first, second⟩
  rw [counted_of_quadrature mode, beq_eq_false_iff_ne.mpr not_along,
    beq_eq_false_iff_ne.mpr not_against, illegal]
  rfl

theorem counted_of_no_change (mode : p.cfg.mode = .quadrature)
    (still : (p.pair0, p.pair1) = (h.new0, h.new1)) : p.counted h = p.gaining h 0 0 0 := by
  have legal : p.illegal h = false :=
    (illegal_eq_false_iff p h).mpr (.inr (.inl (congrArg Prod.fst still)))
  rw [counted_of_quadrature mode, still, beq_eq_false_iff_ne.mpr (forwardOf_ne _), legal]
  rfl

end Counting

/-! ### The hand-over taken, and its stamp (R157) -/

section Taken

variable {s : State} {h : HandOver}

theorem takeHandOver_of_legal (legal : s.pos.illegal h = false) :
    s.takeHandOver h = s.setPos (s.pos.counted h) := by
  simp [State.takeHandOver, legal]

theorem takeHandOver_of_illegal (illegal : s.pos.illegal h = true) :
    s.takeHandOver h =
      (s.setPos (s.pos.counted h)).fireRow 27 h.stamp (some s.pos.incremental) := by
  simp [State.takeHandOver, illegal]

theorem isLater_iff (t u : LineTime) : isLater t u = true ↔ 0 < (t - u).toInt :=
  decide_eq_true_iff

variable {a b : Edge}

theorem stamp_of_io0 (io0 : h.io0 = some a) (io1 : h.io1 = none) : h.stamp = a.stamp := by
  rw [HandOver.stamp, io0, io1]

theorem stamp_of_io1 (io0 : h.io0 = none) (io1 : h.io1 = some b) : h.stamp = b.stamp := by
  rw [HandOver.stamp, io0, io1]

theorem stamp_of_pair (io0 : h.io0 = some a) (io1 : h.io1 = some b) :
    h.stamp = if 0 < (b.stamp - a.stamp).toInt then b.stamp else a.stamp := by
  simp only [HandOver.stamp, io0, io1, isLater_iff]

end Taken

/-! ### The obligation -/

/-- Settles O50: the counting by the mode, and in QUADRATURE by the change of the level pair; then the stamp by
the edges that the illegal transition hands over. -/
theorem positionCounts : Obligations.PositionCounts := by
  unfold Obligations.PositionCounts
  refine ⟨fun p h => ?counting, fun s h => ⟨fun legal => ?legal, fun mode first second => ?illegal⟩⟩
  case counting =>
    intro q counts rise next old new
    have next_eq (x : Level × Level) : next x = forwardOf x := (forwardOf_eq x).symm
    have up {e : Option Edge} : rise e → isRise e = true := (isRise_iff e).mpr
    have other {e : Option Edge} : ¬rise e → isRise e = false := (isRise_eq_false_iff e).mpr
    refine ⟨counted_of_off, fun mode => ?edge, fun mode => ?updown, fun mode => ?quadrature⟩
    case edge =>
      have adds {r0 r1 : Bool} (io0 : isRise h.io0 = r0) (io1 : isRise h.io1 = r1) :
          counts (gain r0) (gain r1) 0 := io0 ▸ io1 ▸ counted_of_edge mode
      exact ⟨fun r0 r1 => adds (up r0) (up r1), fun r0 r1 => adds (up r0) (other r1),
        fun r0 r1 => adds (other r0) (up r1), fun r0 r1 => adds (other r0) (other r1)⟩
    case updown =>
      have adds {r0 before : Bool} (io0 : isRise h.io0 = r0) (io1 : p.pair1 = before) :
          counts (gain (r0 && !before)) (gain (r0 && before)) 0 := by
        rw [← io0, ← io1]
        exact counted_of_updown mode
      exact ⟨fun r0 low => adds (up r0) low, fun r0 high => adds (up r0) high,
        fun r0 => adds (other r0) rfl⟩
    case quadrature =>
      exact ⟨fun along => counted_of_forward mode ((next_eq old).symm.trans along),
        fun against => counted_of_backward mode ((next_eq new).symm.trans against),
        counted_of_illegal mode, counted_of_no_change mode⟩
  case legal => exact takeHandOver_of_legal ((illegal_eq_false_iff s.pos h).mpr legal)
  case illegal =>
    have fires : s.takeHandOver h = _ :=
      takeHandOver_of_illegal ((illegal_iff s.pos h).mpr ⟨mode, first, second⟩)
    refine ⟨fun a io0 io1 => ?_, fun b io0 io1 => ?_,
      fun a b io0 io1 => ⟨fun later => ?_, fun kept => ?_⟩⟩
    · rw [fires, stamp_of_io0 io0 io1]
      rfl
    · rw [fires, stamp_of_io1 io0 io1]
      rfl
    · rw [fires, stamp_of_pair io0 io1, if_pos later]
      rfl
    · rw [fires, stamp_of_pair io0 io1, if_neg (Int.not_lt.mpr kept)]
      rfl

end Sys2Proof.Machine
end

section
/-! PROOF of O46: the outcome of an evaluation, what each mode makes of it and of the runtime state, and what a
forward writes and fires. -/

namespace Sys2Proof.Machine

/-! ### The sample and the outcome (R171) -/

theorem read_incremental (p : PositionUnit) : p.read .incremental = p.incremental := rfl

theorem read_absolute (p : PositionUnit) : p.read .absolute = p.absPos := rfl

theorem outcome_iff (g : CmpConfig) (v : Value32) :
    g.outcome v = true ↔
      (g.strict = false ∧ g.distance v ≤ g.margin.toNat ∨
        g.strict = true ∧ g.distance v < g.margin.toNat) := by
  cases strict : g.strict <;> simp [CmpConfig.outcome, strict]

/-! ### The branch's row (R173) -/

theorem branchRow_eq (k : Fin 2) (outcome : Bool) :
    branchRow k outcome =
      if k = 0 then (if outcome then 28 else 29) else (if outcome then 30 else 31) := by
  revert k outcome
  decide

/-! ### The runtime state recorded (R172) -/

/-- The state with another runtime state of one comparator. -/
def State.setCmpRun (s : State) (k : Fin 2) (r : CmpRuntime) : State :=
  s.setMeas { s.meas with cmpRun := updVec s.meas.cmpRun k fun _ => r }

theorem setCmpRun_self (s : State) (k : Fin 2) : s.setCmpRun k s.meas.cmpRun[k] = s := by
  rw [State.setCmpRun, updVec_of_fixed rfl]
  rfl

theorem recordOutcome_eq_setCmpRun (s : State) (k : Fin 2) (outcome : Bool) :
    s.recordOutcome k outcome =
      s.setCmpRun k (s.meas.cmpRun[k].after s.meas.cmpCfg[k].mode outcome) :=
  rfl

/-! ### The rows of the mode table: what is forwarded, and the runtime state after (R172) -/

section Modes

variable {r : CmpRuntime} {mode : CmpMode} {outcome : Bool}

theorem evaluation_of_off (off : mode = .off) :
    r.forwards mode outcome = false ∧ r.after mode outcome = r := by
  subst off
  exact ⟨rfl, rfl⟩

theorem evaluation_of_once (once : mode = .once) (unspent : r.spent = false) :
    r.forwards mode outcome = true ∧
      r.after mode outcome = { last := some outcome, spent := true } := by
  subst once
  simp [CmpRuntime.forwards, CmpRuntime.after, unspent]

theorem evaluation_of_spent (once : mode = .once) (spent : r.spent = true) :
    r.forwards mode outcome = false ∧ r.after mode outcome = r := by
  subst once
  simp [CmpRuntime.forwards, CmpRuntime.after, spent]

theorem evaluation_of_first (change : mode = .change) (absent : r.last = none) :
    r.forwards mode outcome = false ∧ r.after mode outcome = { r with last := some outcome } := by
  subst change
  simp [CmpRuntime.forwards, CmpRuntime.after, absent]

theorem evaluation_of_same (change : mode = .change) (same : r.last = some outcome) :
    r.forwards mode outcome = false ∧ r.after mode outcome = r := by
  subst change
  have kept : { r with last := some outcome } = r := by rw [← same]
  exact ⟨by simp [CmpRuntime.forwards, same], kept⟩

theorem evaluation_of_crossing (change : mode = .change) (crossed : r.last = some (!outcome)) :
    r.forwards mode outcome = true ∧ r.after mode outcome = { r with last := some outcome } := by
  subst change
  simp [CmpRuntime.forwards, CmpRuntime.after, crossed]

theorem evaluation_of_every (every : mode = .every) :
    r.forwards mode outcome = true ∧ r.after mode outcome = { r with last := some outcome } := by
  subst every
  exact ⟨rfl, rfl⟩

end Modes

/-! ### An evaluation taken (R171 to R173) -/

section Evaluation

variable {s : State} {k : Fin 2} {c : Cause} {v : Value32} {acting : LineTime} {outcome : Bool}
  {r : CmpRuntime}

/-- An evaluation records its runtime state, and forwards the outcome's branch where the mode says so. -/
theorem compareRequest_of_open (opened : s.isOpen = true)
    (found : s.meas.cmpCfg[k].outcome v = outcome) :
    s.compareRequest c v acting k =
      let t := s.setCmpRun k (s.meas.cmpRun[k].after s.meas.cmpCfg[k].mode outcome)
      if s.meas.cmpRun[k].forwards s.meas.cmpCfg[k].mode outcome then
        t.forwardBranch k c v acting outcome
      else t := by
  subst found
  simp [State.compareRequest, opened, recordOutcome_eq_setCmpRun]

theorem compareRequest_of_silent (opened : s.isOpen = true)
    (found : s.meas.cmpCfg[k].outcome v = outcome)
    (silent : s.meas.cmpRun[k].forwards s.meas.cmpCfg[k].mode outcome = false ∧
      s.meas.cmpRun[k].after s.meas.cmpCfg[k].mode outcome = r) :
    s.compareRequest c v acting k = s.setCmpRun k r := by
  obtain ⟨nothing, recorded⟩ := silent
  rw [compareRequest_of_open opened found, nothing, recorded]
  rfl

theorem compareRequest_of_forwards (opened : s.isOpen = true)
    (found : s.meas.cmpCfg[k].outcome v = outcome)
    (forwards : s.meas.cmpRun[k].forwards s.meas.cmpCfg[k].mode outcome = true ∧
      s.meas.cmpRun[k].after s.meas.cmpCfg[k].mode outcome = r) :
    s.compareRequest c v acting k = (s.setCmpRun k r).forwardBranch k c v acting outcome := by
  obtain ⟨branch, recorded⟩ := forwards
  rw [compareRequest_of_open opened found, branch, recorded]
  rfl

end Evaluation

/-! ### The obligation -/

/-- Settles O46: by the mode and the runtime state, the evaluation is idle, silent or a forward. -/
theorem compareTaken : Obligations.CompareTaken := by
  unfold Obligations.CompareTaken
  intro s k c g r v distance after
  have sample : s.pos.read g.source = v := by
    cases source : g.source <;> simp only [v, source, read_incremental, read_absolute]
  have taken : s.request (.compare k) c = s.compareRequest c v s.time.lineTime k := by
    rw [request_compare, ← sample]
    rfl
  refine ⟨fun closed => takeRequest_closed closed (.inr (.inr (.inr ⟨k, rfl⟩))),
    fun opened outcome outcome_spec => ?_⟩
  rw [taken]
  intro row slot forwarded
  have found : g.outcome v = outcome :=
    Bool.eq_iff_iff.mpr ((outcome_iff g v).trans outcome_spec.symm)
  have branch (r' : CmpRuntime) :
      (s.setCmpRun k r').forwardBranch k c v s.time.lineTime outcome = forwarded (after r') := by
    rw [State.forwardBranch, branchRow_eq]
    change ((s.setCmpRun k r').forwardLatch slot v s.time.lineTime g.source).fireDerived row c c.stamp
      (some v) c.restamped = _
    cases written : slot <;> simp only [forwarded, written] <;> rfl
  have silent {r'} (evaluation : r.forwards g.mode outcome = false ∧ r.after g.mode outcome = r') :
      s.compareRequest c v s.time.lineTime k = after r' :=
    compareRequest_of_silent opened found evaluation
  have idle (evaluation : r.forwards g.mode outcome = false ∧ r.after g.mode outcome = r) :
      s.compareRequest c v s.time.lineTime k = s :=
    (silent evaluation).trans (setCmpRun_self s k)
  have forwards {r'} (evaluation : r.forwards g.mode outcome = true ∧ r.after g.mode outcome = r') :
      s.compareRequest c v s.time.lineTime k = forwarded (after r') :=
    (compareRequest_of_forwards opened found evaluation).trans (branch r')
  exact ⟨fun off => idle (evaluation_of_off off),
    fun once unspent => forwards (evaluation_of_once once unspent),
    fun once spent => idle (evaluation_of_spent once spent),
    fun change absent => silent (evaluation_of_first change absent),
    fun change same => idle (evaluation_of_same change same),
    fun change crossed => forwards (evaluation_of_crossing change crossed),
    fun every => forwards (evaluation_of_every every)⟩

end Sys2Proof.Machine
end

section
/-! PROOF of O47: the edge that a MEASURE selects, and the slot it writes by where the difference of the stamps
lies. -/

namespace Sys2Proof.Machine

/-! ### The edge selected (R40) -/

theorem admits_rise (k : EdgeKind) : EdgeSelect.rise.admits k = (k == .rise) := by
  cases k <;> rfl

theorem admits_fall (k : EdgeKind) : EdgeSelect.fall.admits k = (k == .fall) := by
  cases k <;> rfl

theorem admits_either (k : EdgeKind) : EdgeSelect.either.admits k = true := by
  cases k <;> rfl

/-! ### The interval, saturated at the signed 32-bit range (R179) -/

section Interval

variable {d : Int}

theorem saturates_iff (d : Int) : saturates d = true ↔ d < -(2 ^ 31) ∨ 2 ^ 31 - 1 < d := by
  simp only [saturates, Bool.or_eq_true, decide_eq_true_iff]

theorem saturates_eq_false (low : -(2 ^ 31) ≤ d) (high : d ≤ 2 ^ 31 - 1) : saturates d = false :=
  Bool.eq_false_iff.mpr fun saturated =>
    ((saturates_iff d).mp saturated).elim (not_lt.mpr low) (not_lt.mpr high)

theorem sat32_of_fits (low : -(2 ^ 31) ≤ d) (high : d ≤ 2 ^ 31 - 1) : sat32 d = BitVec.ofInt 32 d := by
  rw [sat32, if_neg (not_lt.mpr low), if_neg (not_lt.mpr high)]

theorem sat32_of_above (above : 2 ^ 31 - 1 < d) : sat32 d = BitVec.ofInt 32 (2 ^ 31 - 1) := by
  have not_below : ¬d < -(2 ^ 31) := by omega
  rw [sat32, if_neg not_below, if_pos above]

theorem sat32_of_below (below : d < -(2 ^ 31)) : sat32 d = BitVec.ofInt 32 (-(2 ^ 31)) := by
  rw [sat32, if_pos below]

end Interval

/-! ### The slot written (R179) -/

theorem measSlot_some (c : Cause) (e : Edge) :
    measSlot c (some e) =
      { value := sat32 (timeDiff c.stamp e.stamp), valid := true
        saturated := saturates (timeDiff c.stamp e.stamp), occStamp := some c.stamp
        edge := some e, restamped := c.restamped } :=
  rfl

/-! ### The obligation -/

/-- Settles O47: the request writes the slot of the edge selected, by where the difference of the stamps lies in
the signed 32-bit range. -/
theorem measureTaken : Obligations.MeasureTaken := by
  unfold Obligations.MeasureTaken
  intro s channel kind i slot c edges written slotOf
  have selected : selectEdge s.chans[channel].fifo kind i.toNat = edges[i.toNat]? := by
    cases kind <;> simp only [edges, selectEdge, admits_rise, admits_fall, admits_either]
  have writes (e : Option Edge) (at_index : edges[i.toNat]? = e) {m : MeasSlot}
      (is : measSlot c e = m) : written m := by
    subst is
    change s.request (.measure channel kind i slot) c = s.measureRequest c e slot
    rw [request_measure, ← at_index, ← selected]
    rfl
  refine ⟨fun short => ?absent, fun e at_index => ?_⟩
  case absent => exact writes none (List.getElem?_eq_none short) rfl
  intro d
  have slot_of {value : Int} {saturated : Bool} (bounded : sat32 d = BitVec.ofInt 32 value)
      (flag : saturates d = saturated) : written (slotOf value saturated e) := by
    refine writes (some e) at_index ((measSlot_some c e).trans ?_)
    simp only [slotOf, ← bounded, ← flag]
    rfl
  exact ⟨fun low high => slot_of (sat32_of_fits low high) (saturates_eq_false low high),
    fun above => slot_of (sat32_of_above above) ((saturates_iff d).mpr (.inr above)),
    fun below => slot_of (sat32_of_below below) ((saturates_iff d).mpr (.inl below))⟩

end Sys2Proof.Machine
end

section
/-! SUPPORT. Checks in their order as conditionals, what each coded field of the staging area names, and the
event descriptor at an offset. -/

namespace Sys2Proof.Machine

/-! ### Checks one after the other (R187) -/

section Checks

variable {α β : Type} {e : ConfigError} {p : Prop} [Decidable p]

theorem require_bind (ok : Bool) (f : Unit → Checked β) :
    (require ok e >>= f) = if ok = true then f () else .error e := by
  cases ok <;> rfl

theorem ite_checked_bind (a : α) (f : α → Checked β) :
    ((if p then .ok a else .error e : Checked α) >>= f) = if p then f a else .error e := by
  split <;> rfl

theorem need_ite (a : α) : need (if p then some a else none) e = if p then .ok a else .error e := by
  split <;> rfl

/-- What one check in front of the rest decides. -/
theorem check_cases {x y : Checked α} (is : x = if p then y else .error e) :
    (¬p → x = .error e) ∧ (p → x = y) :=
  ⟨fun fails => is.trans (if_neg fails), fun holds => is.trans (if_pos holds)⟩

end Checks

/-! ### Bytes of the staging area (R186, R196) -/

section Bytes

variable (v : Vector Byte 48)

theorem stByte_fin (i : Fin 48) : stByte v i = v[i] := by
  simp [stByte]

theorem stWord16_toNat (i : Nat) :
    (stWord16 v i).toNat = (stByte v i).toNat + 2 ^ 8 * (stByte v (i + 1)).toNat := by
  have low := (stByte v i).isLt
  rw [stWord16, BitVec.toNat_append, ← Nat.shiftLeft_add_eq_or_of_lt low, Nat.shiftLeft_eq]
  omega

theorem stWord32_toNat (i : Nat) :
    (stWord32 v i).toNat = (stWord16 v i).toNat + 2 ^ 16 * (stWord16 v (i + 2)).toNat := by
  have low := (stWord16 v i).isLt
  rw [stWord32, BitVec.toNat_append, ← Nat.shiftLeft_add_eq_or_of_lt low, Nat.shiftLeft_eq]
  omega

end Bytes

/-! ### Coded fields (R196) -/

section Codes

variable {b : Byte}

/-- A byte above the last value of a code is none of its values. -/
theorem ne_of_above_code (value : Byte) {last : Nat} (above : ¬b.toNat ≤ last)
    (named : value.toNat ≤ last) : b ≠ value := by
  rintro rfl
  exact above named

theorem code_le_one (named : b.toNat ≤ 1) : b = 0 ∨ b = 1 := by
  bv_omega

theorem code_le_two (named : b.toNat ≤ 2) : b = 0 ∨ b = 1 ∨ b = 2 := by
  bv_omega

theorem code_le_three (named : b.toNat ≤ 3) : b = 0 ∨ b = 1 ∨ b = 2 ∨ b = 3 := by
  bv_omega

variable (b)

/-- A check that scope LINE alone must pass. -/
theorem here_or_iff (line ok : Bool) :
    (scopeOf line == .here || ok) = true ↔ (line = true → ok = true) := by
  cases line <;> simp [scopeOf]

/-- The low three bits of a byte as one of eight: a channel or a latch slot. -/
def octal : Fin 8 := ⟨b.toNat % 8, Nat.mod_lt _ (by decide)⟩

theorem ixOf_eight : ixOf 8 b.toNat = if b.toNat ≤ 7 then some (octal b) else none := by
  by_cases named : b.toNat ≤ 7
  · have below : b.toNat < 8 := Nat.lt_succ_of_le named
    have same : octal b = ⟨b.toNat, below⟩ := Fin.ext (Nat.mod_eq_of_lt below)
    rw [if_pos named, same]
    exact ixOf_val ⟨b.toNat, below⟩
  · rw [if_neg named]
    exact ixOf_none (Nat.lt_of_not_le named)

theorem ixOf_two : ixOf 2 b.toNat = if b.toNat ≤ 1 then some (if b = 0 then 0 else 1) else none := by
  by_cases named : b.toNat ≤ 1
  · obtain rfl | rfl := code_le_one named <;> rfl
  · rw [if_neg named]
    exact ixOf_none (Nat.lt_of_not_le named)

theorem stSource_eq :
    stSource b = if b.toNat ≤ 1 then some (if b = 0 then .incremental else .absolute) else none := by
  by_cases named : b.toNat ≤ 1
  · obtain rfl | rfl := code_le_one named <;> rfl
  · rw [if_neg named, stSource, if_neg (ne_of_above_code 0 named (by decide)),
      if_neg (ne_of_above_code 1 named (by decide))]

theorem stEdge_eq :
    stEdge b =
      if b.toNat ≤ 2 then some (if b = 0 then .rise else if b = 1 then .fall else .either)
      else none := by
  by_cases named : b.toNat ≤ 2
  · obtain rfl | rfl | rfl := code_le_two named <;> rfl
  · rw [if_neg named, stEdge, if_neg (ne_of_above_code 0 named (by decide)),
      if_neg (ne_of_above_code 1 named (by decide)), if_neg (ne_of_above_code 2 named (by decide))]

theorem stCmpMode_eq :
    stCmpMode b =
      if b.toNat ≤ 3 then
        some (if b = 0 then .off else if b = 1 then .once else if b = 2 then .change else .every)
      else none := by
  by_cases named : b.toNat ≤ 3
  · obtain rfl | rfl | rfl | rfl := code_le_three named <;> rfl
  · rw [if_neg named, stCmpMode, if_neg (ne_of_above_code 0 named (by decide)),
      if_neg (ne_of_above_code 1 named (by decide)), if_neg (ne_of_above_code 2 named (by decide)),
      if_neg (ne_of_above_code 3 named (by decide))]

theorem stSlot_eq :
    stSlot b =
      if b.toNat ≤ 7 ∨ b = 0xFF then .ok (if b = 0xFF then none else some (octal b))
      else .error .cmpRange := by
  by_cases absent : b = 0xFF
  · rw [stSlot, if_pos absent, if_pos (.inr absent), if_pos absent]
  · simp only [stSlot, ixOf_eight, need_ite, ite_checked_bind, absent, or_false]
    rfl

variable (v : Vector Byte 48)

theorem stPolicy_eq :
    stPolicy v =
      if (stByte v 4).toNat ≤ 1 then some (if stByte v 4 = 0 then .every else .once) else none := by
  unfold stPolicy
  by_cases named : (stByte v 4).toNat ≤ 1
  · obtain code | code := code_le_one named <;> rw [code] <;> rfl
  · rw [if_neg named, if_neg (ne_of_above_code 0 named (by decide)),
      if_neg (ne_of_above_code 1 named (by decide))]

/-- The origin filter byte names a filter, and a station filter a station (R24). -/
abbrev FilterNamed : Prop :=
  (stByte v 2).toNat ≤ 2 ∨ stByte v 2 = 3 ∧ (stByte v 3).toNat ≤ 63

theorem stFilter_eq :
    stFilter v =
      if FilterNamed v then
        some
          (if stByte v 2 = 0 then .any
          else if stByte v 2 = 1 then .inside
          else if stByte v 2 = 2 then .line
          else .station ((stByte v 3).setWidth 6))
      else none := by
  unfold stFilter
  by_cases plain : (stByte v 2).toNat ≤ 2
  · have named : FilterNamed v := .inl plain
    rw [if_pos named]
    obtain code | code | code := code_le_two plain <;> rw [code] <;> rfl
  · simp only [FilterNamed, if_neg (ne_of_above_code 0 plain (by decide)),
      if_neg (ne_of_above_code 1 plain (by decide)), if_neg (ne_of_above_code 2 plain (by decide)),
      plain, false_or]

end Codes

/-! ### Event descriptors (R25, R26, R196) -/

section Descriptors

variable (v : Vector Byte 48) (i : Nat)

/-- A descriptor that is present has an event number, and with scope LINE a priority (R25, R26). -/
abbrev DescInRange : Prop :=
  (stByte v i).getLsbD 0 = true →
    1 ≤ (stWord16 v (i + 1)).toNat ∧ (stWord16 v (i + 1)).toNat ≤ 4095 ∧
      ((stByte v i).getLsbD 1 = true → (stByte v i).extractLsb' 4 3 ≠ 0)

/-- The descriptor that the bytes at an offset spell. -/
def stagedDesc : Option EventDesc :=
  if (stByte v i).getLsbD 0 then
    some
      { event := (stWord16 v (i + 1)).setWidth 12, scope := scopeOf ((stByte v i).getLsbD 1)
        priority := (stByte v i).extractLsb' 4 3 }
  else none

theorem checkDesc_eq :
    checkDesc v i = if DescInRange v i then .ok (stagedDesc v i) else .error .subEndEvent := by
  by_cases present : (stByte v i).getLsbD 0 = true
  case neg =>
    simp only [checkDesc, stDesc, stagedDesc, DescInRange, present, Bool.false_eq_true, if_false,
      false_imp_iff, if_true]
  case pos =>
    simp only [checkDesc, stDesc, stagedDesc, DescInRange, present, if_true, require_bind, here_or_iff,
      Bool.and_eq_true, decide_eq_true_iff, bne_iff_ne, true_imp_iff, ← ite_and, and_assoc]
    rfl

end Descriptors

end Sys2Proof.Machine
end

section
/-! SUPPORT. What the checks of binding rows, comparators, actions and subscription entries come to: one
equation for each, the codes in the order of the checks. -/

namespace Sys2Proof.Machine

/-! ### Binding rows (R6) -/

section BindingRows

variable (v : Vector Byte 48) (r : Fin 32)

theorem payload_allowed_iff (flag : Bool) :
    (!flag || payloadRow r) = true ↔ (flag = true → r.val = 24 ∨ r.val = 27 ∨ 28 ≤ r.val) := by
  cases flag <;> simp [payloadRow, or_assoc, Fin.ext_iff]

theorem checkBinding_eq :
    checkBinding v r =
      if (stWord16 v 0).toNat ≤ 4095 then
        if (stByte v 2).getLsbD 0 = true → 1 ≤ (stByte v 3).toNat ∧ (stByte v 3).toNat ≤ 7 then
          if (stByte v 4).getLsbD 0 = true → r.val = 24 ∨ r.val = 27 ∨ 28 ≤ r.val then
            .ok
              { event := (stWord16 v 0).setWidth 12, scope := scopeOf ((stByte v 2).getLsbD 0)
                priority := stByte v 3, payloadFlag := (stByte v 4).getLsbD 0 }
          else .error .bindPayload
        else .error .bindPriority
      else .error .bindEvent := by
  simp only [checkBinding, require_bind, here_or_iff, payload_allowed_iff, Bool.and_eq_true,
    decide_eq_true_iff]
  rfl

end BindingRows

/-! ### Comparators (R169) -/

section Comparators

variable (v : Vector Byte 48)

/-- Every coded field of a comparator names a value (R169). -/
abbrev CmpInRange : Prop :=
  (stByte v 0).toNat ≤ 1 ∧ (stByte v 1).toNat ≤ 3 ∧ 1 ≤ (stByte v 2).toNat ∧
    (stByte v 2).toNat ≤ 32 ∧ ((stByte v 12).toNat ≤ 7 ∨ stByte v 12 = 0xFF) ∧
    ((stByte v 13).toNat ≤ 7 ∨ stByte v 13 = 0xFF)

theorem checkCmp_eq :
    checkCmp v =
      if CmpInRange v then
        .ok
          { source := if stByte v 0 = 0 then .incremental else .absolute
            mode :=
              if stByte v 1 = 0 then .off
              else if stByte v 1 = 1 then .once
              else if stByte v 1 = 2 then .change
              else .every
            maskBits := stByte v 2, strict := (stByte v 3).getLsbD 0, origin := stWord32 v 4
            margin := stWord32 v 8
            trueSlot := if stByte v 12 = 0xFF then none else some (octal (stByte v 12))
            falseSlot := if stByte v 13 = 0xFF then none else some (octal (stByte v 13)) }
      else .error .cmpRange := by
  simp only [checkCmp, stSource_eq, stCmpMode_eq, stSlot_eq, need_ite, ite_checked_bind, require_bind,
    Bool.and_eq_true, decide_eq_true_iff, ← ite_and, and_assoc]
  rfl

end Comparators

/-! ### Actions by their kind (R24 to R26) -/

section Actions

variable {v : Vector Byte 48}

theorem checkAction_drive (kind : stByte v 5 = 0) : checkAction v = checkDrive v := by
  rw [checkAction, if_pos kind]

theorem checkAction_cancel (kind : stByte v 5 = 1) :
    checkAction v =
      if (stByte v 8).toNat ≤ 15 then .ok (.cancel ((stByte v 8).setWidth 4))
      else .error .subRange := by
  simp only [checkAction, kind, checkCancel, require_bind, decide_eq_true_iff]
  rfl

theorem checkAction_latch (kind : stByte v 5 = 2) :
    checkAction v =
      if (stByte v 8).toNat ≤ 1 ∧ (stByte v 9).toNat ≤ 7 then
        if DescInRange v 10 then
          .ok
            (.latch (if stByte v 8 = 0 then .incremental else .absolute) (octal (stByte v 9))
              (stagedDesc v 10))
        else .error .subEndEvent
      else .error .subRange := by
  have latch : checkAction v = checkLatch v := by
    simp only [checkAction, kind]
    rfl
  simp only [latch, checkLatch, stSource_eq, ixOf_eight, checkDesc_eq, need_ite, ite_checked_bind,
    ← ite_and]
  rfl

theorem checkAction_capture (kind : stByte v 5 = 3) : checkAction v = .ok .capture := by
  simp only [checkAction, kind]
  rfl

theorem checkAction_compare (kind : stByte v 5 = 4) :
    checkAction v =
      if (stByte v 8).toNat ≤ 1 then .ok (.compare (if stByte v 8 = 0 then 0 else 1))
      else .error .subRange := by
  have compare : checkAction v = checkCompare v := by
    simp only [checkAction, kind]
    rfl
  simp only [compare, checkCompare, ixOf_two, need_ite, ite_checked_bind]
  rfl

theorem checkAction_measure (kind : stByte v 5 = 5) :
    checkAction v =
      if (stByte v 8).toNat ≤ 7 ∧ (stByte v 9).toNat ≤ 2 ∧ (stByte v 10).toNat ≤ 15 ∧
          (stByte v 11).toNat ≤ 7 then
        .ok
          (.measure (octal (stByte v 8))
            (if stByte v 9 = 0 then .rise else if stByte v 9 = 1 then .fall else .either)
            ((stByte v 10).setWidth 4) (octal (stByte v 11)))
      else .error .subRange := by
  have measure : checkAction v = checkMeasure v := by
    simp only [checkAction, kind]
    rfl
  simp only [measure, checkMeasure, ixOf_eight, stEdge_eq, need_ite, ite_checked_bind, require_bind,
    decide_eq_true_iff, ← ite_and]
  rfl

theorem checkAction_preset (kind : stByte v 5 = 6) : checkAction v = .ok (.preset (stWord32 v 8)) := by
  simp only [checkAction, kind]
  rfl

theorem checkAction_of_no_kind (above : ¬(stByte v 5).toNat ≤ 6) :
    checkAction v = .error .subKind := by
  simp only [checkAction, ne_of_above_code 0 above (by decide), ne_of_above_code 1 above (by decide),
    ne_of_above_code 2 above (by decide), ne_of_above_code 3 above (by decide),
    ne_of_above_code 4 above (by decide), ne_of_above_code 5 above (by decide),
    ne_of_above_code 6 above (by decide), if_false]

end Actions

/-! ### A staged DRIVE (R25) -/

section Drive

variable (v : Vector Byte 48)

/-- Checks 5 to 7: the tag, the two counts and the two 24-bit times. -/
abbrev DriveInRange : Prop :=
  (stByte v 28).toNat ≤ 15 ∧ 1 ≤ (stByte v 18).toNat ∧ 1 ≤ (stByte v 19).toNat ∧
    (stWord32 v 10).toNat < 2 ^ 24 ∧ (stWord32 v 20).toNat < 2 ^ 24

/-- Check 8: the drive has a pulse or a mask. -/
abbrev DriveActs : Prop := 0 < (stWord32 v 10).toNat ∨ stByte v 8 ≠ 0

/-- Check 9: the pulses of a burst do not touch. -/
abbrev PulsesApart : Prop :=
  1 < (stByte v 18).toNat → (stWord32 v 10).toNat < (stWord32 v 20).toNat

/-- Check 10: the bursts do not overlap. -/
abbrev BurstsApart : Prop :=
  1 < (stByte v 19).toNat →
    (1 < (stByte v 18).toNat →
        (stByte v 18).toNat * (stWord32 v 20).toNat ≤ (stWord32 v 24).toNat) ∧
      ((stByte v 18).toNat = 1 → (stWord32 v 10).toNat < (stWord32 v 24).toNat)

/-- The parameters that the bytes spell. -/
def stagedDrive : DriveParams :=
  { mask := stByte v 8, onLevels := stByte v 9, width := (stWord32 v 10).setWidth 24
    delay := stWord32 v 14, innerCount := stByte v 18, innerSpacing := (stWord32 v 20).setWidth 24
    outerCount := stByte v 19, outerSpacing := stWord32 v 24, tag := (stByte v 28).setWidth 4
    endEvent := stagedDesc v 29 }

theorem le_one_or_iff (n : Nat) (p : Prop) : n ≤ 1 ∨ p ↔ (1 < n → p) := by
  rw [or_iff_not_imp_left, Nat.not_le]

theorem outerOk_iff {k : Nat} (m s t w : Nat) (burst : 1 ≤ k) :
    outerOk k m s t w = true ↔ (1 < m → (1 < k → k * s ≤ t) ∧ (k = 1 → w < t)) := by
  simp only [outerOk, Bool.or_eq_true, decide_eq_true_iff, le_one_or_iff]
  obtain rfl | many := burst.eq_or_lt
  · simp
  · simp [many, many.ne']

theorem checkDrive_eq :
    checkDrive v =
      if DriveInRange v then
        if DriveActs v then
          if PulsesApart v then
            if BurstsApart v then
              if DescInRange v 29 then .ok (.drive (stagedDrive v)) else .error .subEndEvent
            else .error .driveOuter
          else .error .driveWidth
        else .error .driveNothing
      else .error .subRange := by
  simp only [checkDrive, require_bind, checkDesc_eq, ite_checked_bind, Bool.and_eq_true,
    Bool.or_eq_true, decide_eq_true_iff, bne_iff_ne, ← ite_and, and_assoc]
  refine if_ctx_congr Iff.rfl (fun range => ?_) fun _ => rfl
  obtain ⟨-, burst, -⟩ := range
  simp only [outerOk_iff _ _ _ _ burst, le_one_or_iff]
  rfl

end Drive

/-! ### A staged subscription entry (R23, R24) -/

section Entries

variable {v : Vector Byte 48} {a : Action} {e : ConfigError}

/-- Checks 1 to 3 of an entry. -/
structure HeaderOk (v : Vector Byte 48) : Prop where
  event : (stWord16 v 0).toNat ≤ 4095
  filter : FilterNamed v
  policy : (stByte v 4).toNat ≤ 1

/-- The entry that the bytes spell in front of an action. -/
def stagedEntry (v : Vector Byte 48) (a : Action) : SubEntry :=
  { event := (stWord16 v 0).setWidth 12
    filter :=
      if stByte v 2 = 0 then .any
      else if stByte v 2 = 1 then .inside
      else if stByte v 2 = 2 then .line
      else .station ((stByte v 3).setWidth 6)
    policy := if stByte v 4 = 0 then .every else .once, action := a, armed := true }

theorem checkSub_of_zero (zero : stWord16 v 0 = 0) : checkSub v = .ok .empty := by
  rw [checkSub, if_pos zero]

theorem checkSub_eq (nonzero : stWord16 v 0 ≠ 0) :
    checkSub v =
      if (stWord16 v 0).toNat ≤ 4095 then
        if FilterNamed v then
          if (stByte v 4).toNat ≤ 1 then checkAction v >>= fun a => .ok (stagedEntry v a)
          else .error .subPolicy
        else .error .subFilter
      else .error .subEvent := by
  simp only [checkSub, if_neg nonzero, stFilter_eq, stPolicy_eq, need_ite, ite_checked_bind,
    require_bind, decide_eq_true_iff]
  rfl

theorem checkSub_of_header (nonzero : stWord16 v 0 ≠ 0) (header : HeaderOk v) :
    checkSub v = checkAction v >>= fun a => .ok (stagedEntry v a) := by
  rw [checkSub_eq nonzero, if_pos header.event, if_pos header.filter, if_pos header.policy]

theorem checkSub_of_action (nonzero : stWord16 v 0 ≠ 0) (header : HeaderOk v)
    (action : checkAction v = .ok a) : checkSub v = .ok (stagedEntry v a) := by
  rw [checkSub_of_header nonzero header, action]
  rfl

theorem checkSub_of_action_error (nonzero : stWord16 v 0 ≠ 0) (header : HeaderOk v)
    (action : checkAction v = .error e) : checkSub v = .error e := by
  rw [checkSub_of_header nonzero header, action]
  rfl

/-- An action whose one check is that of its ranges. -/
theorem checkSub_of_range {p : Prop} [Decidable p] (nonzero : stWord16 v 0 ≠ 0) (header : HeaderOk v)
    (action : checkAction v = if p then .ok a else .error .subRange) :
    (¬p → checkSub v = .error .subRange) ∧ (p → checkSub v = .ok (stagedEntry v a)) :=
  ⟨fun outside => checkSub_of_action_error nonzero header (action.trans (if_neg outside)),
    fun inside => checkSub_of_action nonzero header (action.trans (if_pos inside))⟩

end Entries

end Sys2Proof.Machine
end

section
/-! PROOF of O16: what a STORE of a configuration table leaves in the part, and each table's checks read off
their equations. -/

namespace Sys2Proof.Machine

/-! ### The host port after a STORE (R187, R188) -/

section HostPort

/-- The host port once a STORE has been taken. -/
abbrev HostUnit.storeTaken (h : HostUnit) : HostUnit :=
  { h.writing 0x2B#7 with
    errorCode := .none, status := { source := 0x40, outcome := .taken, detail := 0 } }

/-- The host port once a check has refused a STORE. -/
abbrev HostUnit.storeFailed (h : HostUnit) (e : ConfigError) : HostUnit :=
  { h.writing 0x2B#7 with
    errorCode := e, status := { source := 0x40, outcome := .checkFailed, detail := e.code } }

variable (s : State)

theorem storeTaken_setStation (u : StationUnit) :
    ((((s.hostWrite 0x2B#7).setStation u).clearError).taken 0x40) =
      { s with station := u, host := s.host.storeTaken } := by
  simp only [State.taken, State.record, State.clearError, State.setStation, State.hostWrite,
    State.setHost]

theorem storeTaken_setDisp (d : DispatchUnit) :
    ((((s.hostWrite 0x2B#7).setDisp d).clearError).taken 0x40) =
      { s with disp := d, host := s.host.storeTaken } := by
  simp only [State.taken, State.record, State.clearError, State.setDisp, State.hostWrite,
    State.setHost]

theorem storeTaken_setMeas (m : MeasureUnit) :
    ((((s.hostWrite 0x2B#7).setMeas m).clearError).taken 0x40) =
      { s with meas := m, host := s.host.storeTaken } := by
  simp only [State.taken, State.record, State.clearError, State.setMeas, State.hostWrite,
    State.setHost]

theorem checkFailed_store (e : ConfigError) :
    (s.hostWrite 0x2B#7).checkFailed 0x40 e = { s with host := s.host.storeFailed e } := by
  simp only [State.checkFailed, State.record, State.hostWrite, State.setHost]

theorem setMeas_setMeas (a b : MeasureUnit) : (s.setMeas a).setMeas b = s.setMeas b := rfl

theorem storeCmp_eq (k : Fin 2) (g : CmpConfig) :
    s.storeCmp k g =
      s.setMeas
        { s.meas with
          cmpCfg := updVec s.meas.cmpCfg k fun _ => g
          cmpRun := updVec s.meas.cmpRun k fun _ => .cleared } := by
  rw [State.storeCmp, State.clearCmp, State.setMeas_meas, setMeas_setMeas]

end HostPort

/-! ### STORE of a writable table (R187) -/

theorem tableIx_val {n : Nat} (i : Fin n) : tableIx n i.val = .ok i := by
  rw [tableIx, ixOf_val]
  rfl

section Record

variable (t : State)

theorem storeRecord_station (table : t.selectedTable = 0) (index : t.host.tableIndex = 0) :
    t.storeRecord = (t.storeStation.clearError).taken 0x40 := by
  have names : tableIx 1 t.host.tableIndex.toNat = .ok 0 :=
    (congrArg (fun i : Byte => tableIx 1 i.toNat) index).trans (tableIx_val 0)
  simp only [State.storeRecord, table, State.storeStationAt, names]
  rfl

theorem storeRecord_binding (table : t.selectedTable = 1) {r : Fin 32}
    (index : t.host.tableIndex.toNat = r.val) :
    t.storeRecord =
      t.storeChecked (checkBinding t.host.staging r) fun t b => t.storeBinding r b := by
  simp only [State.storeRecord, table, State.storeBindingAt, index, tableIx_val]
  rfl

theorem storeRecord_sub (table : t.selectedTable = 2) {i : Fin 64}
    (index : t.host.tableIndex.toNat = i.val) :
    t.storeRecord = t.storeChecked (checkSub t.host.staging) fun t e => t.storeSub i e := by
  simp only [State.storeRecord, table, State.storeSubAt, index, tableIx_val]
  rfl

theorem storeRecord_cmp (table : t.selectedTable = 3) {k : Fin 2}
    (index : t.host.tableIndex.toNat = k.val) :
    t.storeRecord = t.storeChecked (checkCmp t.host.staging) fun t g => t.storeCmp k g := by
  simp only [State.storeRecord, table, State.storeCmpAt, index, tableIx_val]
  rfl

end Record

section Exec

variable {s : State} {value : Byte} (released : s.resetHeld = false)
  (config : s.station.mode = .config) (table : s.selectedTable ≤ 5)
include released config table

theorem exec_store : exec (.store value) s = .next (s.hostWrite 0x2B#7).storeRecord := by
  have selects : (s.hostWrite 0x2B#7).selectedTable ≤ 5 := table
  have writable : (s.hostWrite 0x2B#7).tableWritable = true := by
    simp [State.tableWritable, State.inConfig, config, selects]
  refine (act_released (fun s => (s.hostWrite 0x2B#7).store) released).trans ?_
  rw [State.store, if_pos writable]

/-- A STORE of a checked record is taken with the record written, or refused with the code of the check that
failed. -/
theorem exec_store_checked {α : Type} {r : Checked α} {write : State → α → State} {after : α → State}
    (record : (s.hostWrite 0x2B#7).storeRecord = (s.hostWrite 0x2B#7).storeChecked r write)
    (written : ∀ a, ((write (s.hostWrite 0x2B#7) a).clearError).taken 0x40 = after a) :
    (∀ a, r = .ok a → exec (.store value) s = .next (after a)) ∧
      ∀ e, r = .error e → exec (.store value) s = .next { s with host := s.host.storeFailed e } := by
  rw [exec_store released config table, record]
  constructor
  · rintro a rfl
    exact congrArg _ (written a)
  · rintro e rfl
    exact congrArg _ (checkFailed_store s e)

end Exec

/-! ### The obligation -/

/-- Settles O16: a STORE is its table's checked write, and each table's checks are read off the equation of
its check, an entry's kind by kind. -/
theorem storeOfTables : Obligations.StoreOfTables := by
  unfold Obligations.StoreOfTables
  refine ⟨fun s value released config => ?stores, fun v => ?checks, by decide⟩
  case stores =>
    refine ⟨fun table index => ?station, fun table r index => ?binding, fun table i index => ?sub,
      fun table k index => ?cmp⟩
    case station =>
      rw [exec_store released config (by omega), storeRecord_station (s.hostWrite 0x2B#7) table index]
      exact congrArg _ (storeTaken_setStation s _)
    case binding =>
      exact exec_store_checked released config (by omega)
        (storeRecord_binding (s.hostWrite 0x2B#7) table index) fun _ => storeTaken_setDisp s _
    case sub =>
      exact exec_store_checked released config (by omega)
        (storeRecord_sub (s.hostWrite 0x2B#7) table index) fun _ => storeTaken_setDisp s _
    case cmp =>
      refine exec_store_checked released config (by omega)
        (storeRecord_cmp (s.hostWrite 0x2B#7) table index) fun g => ?_
      rw [storeCmp_eq]
      exact storeTaken_setMeas s _
  case checks =>
    refine ⟨stByte_fin v, stWord16_toNat v, stWord32_toNat v, fun r => ?binding, checkSub_of_zero,
      fun nonzero => ?entry, check_cases (checkCmp_eq v)⟩
    case binding =>
      have is := checkBinding_eq v r
      exact ⟨fun event => by rw [is, if_neg event],
        fun event priority => by rw [is, if_pos event, if_neg priority],
        fun event priority payload => by rw [is, if_pos event, if_pos priority, if_neg payload],
        fun event priority payload => by rw [is, if_pos event, if_pos priority, if_pos payload]; rfl⟩
    case entry =>
      have is := checkSub_eq nonzero
      refine ⟨fun event => by rw [is, if_neg event],
        fun event filter => by rw [is, if_pos event, if_neg filter],
        fun event filter policy => by rw [is, if_pos event, if_pos filter, if_neg policy],
        fun event filter policy kind =>
          checkSub_of_action_error nonzero ⟨event, filter, policy⟩ (checkAction_of_no_kind kind),
        fun event filter policy => ?kinds⟩
      have header : HeaderOk v := ⟨event, filter, policy⟩
      have accepted {a} := checkSub_of_action (a := a) nonzero header
      have refused {e} := checkSub_of_action_error (e := e) nonzero header
      refine ⟨fun kind => ?drive, fun kind => ?cancel, fun kind => ?latch,
        fun kind => accepted (checkAction_capture kind), fun kind => ?compare,
        fun kind => checkSub_of_range nonzero header (checkAction_measure kind),
        fun kind => accepted (checkAction_preset kind)⟩
      case drive =>
        have action := (checkAction_drive kind).trans (checkDrive_eq v)
        exact ⟨fun range => refused (by rw [action, if_neg range]),
          fun range acts => refused (by rw [action, if_pos range, if_neg acts]),
          fun range acts pulses => refused (by rw [action, if_pos range, if_pos acts, if_neg pulses]),
          fun range acts pulses bursts =>
            refused (by rw [action, if_pos range, if_pos acts, if_pos pulses, if_neg bursts]),
          fun range acts pulses bursts desc =>
            refused (by rw [action, if_pos range, if_pos acts, if_pos pulses, if_pos bursts, if_neg desc]),
          fun range acts pulses bursts desc =>
            accepted
              (by rw [action, if_pos range, if_pos acts, if_pos pulses, if_pos bursts, if_pos desc]; rfl)⟩
      case cancel =>
        obtain ⟨above, named⟩ := checkSub_of_range nonzero header (checkAction_cancel kind)
        exact ⟨fun h => above (Nat.not_le.mpr h), named⟩
      case latch =>
        have action := checkAction_latch kind
        exact ⟨fun range => refused (by rw [action, if_neg range]),
          fun range desc => refused (by rw [action, if_pos range, if_neg desc]),
          fun range desc => accepted (by rw [action, if_pos range, if_pos desc]; rfl)⟩
      case compare =>
        obtain ⟨above, named⟩ := checkSub_of_range nonzero header (checkAction_compare kind)
        exact ⟨fun h => above (Nat.not_le.mpr h), named⟩

end Sys2Proof.Machine
end

section
/-! SUPPORT. What an accepted action and an accepted subscription entry have (R24 to R26). -/

namespace Sys2Proof.Machine

/-! ### Event descriptors (R25, R26) -/

/-- What an accepted descriptor has: an event number, and with scope LINE a priority. -/
def DescStorable (d : Option EventDesc) : Prop :=
  ∀ x ∈ d, x.event ≠ 0 ∧ (x.scope = .line → x.priority ≠ 0)

theorem descStorable_staged {v : Vector Byte 48} {i : Nat} (range : DescInRange v i) :
    DescStorable (stagedDesc v i) := by
  intro d present
  rw [stagedDesc] at present
  split at present
  case isFalse => cases present
  rename_i shown
  cases present
  obtain ⟨low, high, urgent⟩ := range shown
  refine ⟨fun zero => ?_, fun line => urgent ?_⟩
  · have := congrArg BitVec.toNat zero
    rw [BitVec.toNat_setWidth, Nat.mod_eq_of_lt (by omega)] at this
    rw [this] at low
    cases low
  · cases flag : (stByte v i).getLsbD 1 with
    | true => rfl
    | false =>
      have line : scopeOf ((stByte v i).getLsbD 1) = .line := line
      rw [flag] at line
      cases line

/-! ### Actions (R24 to R26) -/

/-- What an accepted DRIVE has: checks 6 and 8 to 11. -/
structure ParamsStorable (p : DriveParams) : Prop where
  inner : 1 ≤ p.innerCount.toNat
  outer : 1 ≤ p.outerCount.toNat
  acts : 0 < p.width.toNat ∨ p.mask ≠ 0
  pulses : 1 < p.innerCount.toNat → p.width.toNat < p.innerSpacing.toNat
  bursts : 1 < p.outerCount.toNat →
    (1 < p.innerCount.toNat → p.innerCount.toNat * p.innerSpacing.toNat ≤ p.outerSpacing.toNat) ∧
      (p.innerCount.toNat = 1 → p.width.toNat < p.outerSpacing.toNat)
  ending : DescStorable p.endEvent

/-- What an accepted action has. -/
def ActionStorable : Action → Prop
  | .drive p => ParamsStorable p
  | .latch _ _ d => DescStorable d
  | _ => True

section Accepted

variable {v : Vector Byte 48} {a : Action}

theorem paramsStorable_staged (range : DriveInRange v) (acts : DriveActs v) (pulses : PulsesApart v)
    (bursts : BurstsApart v) (ending : DescInRange v 29) : ParamsStorable (stagedDrive v) := by
  obtain ⟨-, inner, outer, width, spacing⟩ := range
  have widths : ((stWord32 v 10).setWidth 24).toNat = (stWord32 v 10).toNat := by
    rw [BitVec.toNat_setWidth, Nat.mod_eq_of_lt width]
  have spacings : ((stWord32 v 20).setWidth 24).toNat = (stWord32 v 20).toNat := by
    rw [BitVec.toNat_setWidth, Nat.mod_eq_of_lt spacing]
  refine ⟨inner, outer, ?_, ?_, ?_, descStorable_staged ending⟩
  · rw [stagedDrive, widths]
    exact acts
  · rw [stagedDrive, widths, spacings]
    exact pulses
  · rw [stagedDrive, widths, spacings]
    exact bursts

theorem storable_of_checkDrive (accepted : checkDrive v = .ok a) : ActionStorable a := by
  rw [checkDrive_eq] at accepted
  split at accepted
  case isFalse => cases accepted
  rename_i range
  split at accepted
  case isFalse => cases accepted
  rename_i acts
  split at accepted
  case isFalse => cases accepted
  rename_i pulses
  split at accepted
  case isFalse => cases accepted
  rename_i bursts
  split at accepted
  case isFalse => cases accepted
  cases accepted
  exact paramsStorable_staged range acts pulses bursts ‹_›

theorem storable_of_checkAction (accepted : checkAction v = .ok a) : ActionStorable a := by
  by_cases named : (stByte v 5).toNat ≤ 6
  case neg => rw [checkAction_of_no_kind named] at accepted; cases accepted
  have kinds : stByte v 5 = 0 ∨ stByte v 5 = 1 ∨ stByte v 5 = 2 ∨ stByte v 5 = 3 ∨ stByte v 5 = 4 ∨
      stByte v 5 = 5 ∨ stByte v 5 = 6 := by
    bv_omega
  obtain kind | kind | kind | kind | kind | kind | kind := kinds
  · exact storable_of_checkDrive (checkAction_drive kind ▸ accepted)
  · rw [checkAction_cancel kind] at accepted
    split at accepted <;> cases accepted
    trivial
  · rw [checkAction_latch kind] at accepted
    split at accepted
    case isFalse => cases accepted
    split at accepted <;> cases accepted
    exact descStorable_staged ‹_›
  · rw [checkAction_capture kind] at accepted
    cases accepted
    trivial
  · rw [checkAction_compare kind] at accepted
    split at accepted <;> cases accepted
    trivial
  · rw [checkAction_measure kind] at accepted
    split at accepted <;> cases accepted
    trivial
  · rw [checkAction_preset kind] at accepted
    cases accepted
    trivial

end Accepted

/-! ### Subscription entries (R23) -/

theorem checkSub_ok_cases {v : Vector Byte 48} {e : SubEntry} (checked : checkSub v = .ok e) :
    e = .empty ∨ ∃ a, checkAction v = .ok a ∧ e = stagedEntry v a := by
  by_cases zero : stWord16 v 0 = 0
  · rw [checkSub_of_zero zero] at checked
    cases checked
    exact .inl rfl
  · rw [checkSub_eq zero] at checked
    cases action : checkAction v with
    | error _ =>
      rw [action] at checked
      (repeat' split at checked) <;> cases checked
    | ok a =>
      rw [action] at checked
      (repeat' split at checked) <;> cases checked
      exact .inr ⟨a, rfl, rfl⟩

theorem armed_of_checkSub {v : Vector Byte 48} {e : SubEntry} (checked : checkSub v = .ok e) :
    e.armed = true := by
  obtain rfl | ⟨a, -, rfl⟩ := checkSub_ok_cases checked
  · rfl
  · rfl

/-- A DRIVE's two counts are at least 1 (R25). -/
def DriveParams.Counts (p : DriveParams) : Prop := 1 ≤ p.innerCount.toNat ∧ 1 ≤ p.outerCount.toNat

theorem counts_of_checkSub {v : Vector Byte 48} {e : SubEntry} (checked : checkSub v = .ok e) {p : DriveParams}
    (drives : e.action = .drive p) : p.Counts := by
  obtain rfl | ⟨a, action, rfl⟩ := checkSub_ok_cases checked
  · cases drives
  · cases drives
    have storable : ParamsStorable p := storable_of_checkAction action
    exact ⟨storable.inner, storable.outer⟩

end Sys2Proof.Machine
end

section
/-! SUPPORT. What a step can do, said once: the moves a meaning is made of, each with the cause it has, and for
every operation the moves it makes. An invariant that each move keeps is kept by every step. -/

namespace Sys2Proof.Machine

/-! ### What a move leaves as legal as it was, block by block -/

/-- The reader stands to its record, timers and shift word as `FieldLegal` says (R160, R162). -/
structure PositionUnit.Legal (p : PositionUnit) : Prop where
  record : p.record.isSome = (p.reader != .idle)
  shifting : p.shiftLeft.isSome = (p.reader == .shifting)
  sampled : ∀ r left, p.reader = .shifting → p.record = some r → p.shiftLeft = some left →
    left ≤ r.enc.shiftTicks ∧
      p.shiftWord.length = (r.enc.shiftTicks - left + r.enc.clock.period / 2) / r.enc.clock.period
  recovery : p.recovery.isSome = (p.reader == .recovery)

/-- One channel becomes another that is as legal, its FIFO within its places; while RESETN is asserted an input
without a candidate stays one. -/
structure Channel.Keeps (held : Bool) (c d : Channel) : Prop where
  legal : c.Legal → d.Legal
  fifo : c.fifo.length ≤ 16 → d.fifo.length ≤ 16
  input : held = true → c.cfg.direction = .input → d.cfg.direction = .input
  quiet : held = true → c.cand = none → d.cand = none

/-- The records as another list of them: within the places, in order, young and of other stations as before. -/
structure State.KeepsPeers (s : State) (l : List PeerRecord) : Prop where
  length : s.time.peers.length ≤ 24 → l.length ≤ 24
  ascending : (s.time.peers.Pairwise fun a b => a.station.toNat < b.station.toNat) →
    l.Pairwise fun a b => a.station.toNat < b.station.toNat
  others : (∀ r ∈ s.time.peers, r.station.setWidth 8 ≠ s.station.cfg.station) →
    ∀ r ∈ l, r.station.setWidth 8 ≠ s.station.cfg.station
  young : (∀ r ∈ s.time.peers, r.age ≤ 3) → ∀ r ∈ l, r.age ≤ 3

/-- Line time stands, a timer that runs runs on, and the slew changes in a round alone. -/
structure State.KeepsTime (s : State) (u : TimeUnit) : Prop where
  lineTime : u.lineTime = s.time.lineTime
  timer : u.syncTimer.isSome = s.time.syncTimer.isSome
  slew : u.slew = s.time.slew ∨ s.time.syncTimer.isSome = true
  peers : s.KeepsPeers u.peers

/-- The counts of the DRIVEs in the table, and of one under way, are at least 1 (R25). -/
structure DispatchUnit.Counts (d : DispatchUnit) : Prop where
  table : ∀ (i : Fin 64) (p : DriveParams), d.subs[i].action = .drive p → p.Counts
  underWay : ∀ (r : Request) (p : DriveParams), d.underWay = some r → r.action = .drive p → p.Counts

/-- Nothing joins the dispatch queue, a closed dispatcher stays empty, and entries of policy EVERY stay armed; no
DRIVE with a count of 0 comes in. -/
structure State.KeepsDisp (s : State) (d : DispatchUnit) : Prop where
  queue : d.queue.length ≤ s.disp.queue.length
  closed : s.isOpen = false → s.disp.queue = [] → s.disp.current = none →
    d.queue = [] ∧ d.current = none
  armed : (∀ i : Fin 64, s.disp.subs[i].policy = .every → s.disp.subs[i].armed = true) →
    ∀ i : Fin 64, d.subs[i].policy = .every → d.subs[i].armed = true
  counts : s.disp.Counts → d.Counts

/-! ### The moves -/

/-- The notice in which an occurrence goes to the line (R122). -/
def eventNotice (p : Priority) (o : Occurrence) : Notice :=
  { body := .event o, priority := p, errored := 0, inTx := false }

/-- The station in CONFIG with the line engine off (R101, R117). -/
def State.configEntered (s : State) : State :=
  (s.setLine s.line.off).setStation
    { s.station with mode := .config, listenTimer := none, leaveTimer := none }

/-- The least that a meaning does at once: what none of the invariants can tell apart. -/
inductive Move : State → State → Prop
  | report (s : State) (time : LineTime) (b : ReportBody) : Move s (s.reportAt time b)
  | arrive (s : State) (o : Occurrence) (opened : s.isOpen = true) (room : s.disp.queue.length < 8) :
    Move s (s.setDisp { s.disp with queue := s.disp.queue ++ [o] })
  | handOver (s : State) (p : Priority) (o : Occurrence) (opened : s.isOpen = true)
    (room : sharedCount s.line.txq < 15) : Move s (s.joinTx (eventNotice p o))
  | choices (s : State) (n : Nat) : Move s (s.useChoices n)
  | pending (s : State) (q : List Instr) : Move s (s.setPending q)
  | host (s : State) (h : HostUnit) (reports : h.reports = s.host.reports)
    (live : h.captureLive = true → s.host.captureLive = true) : Move s (s.setHost h)
  | captureHead (s : State) : Move s s.captureHead
  | removeHead (s : State) : Move s s.removeHead
  | emptyReports (s : State) : Move s s.emptyReports
  | chans (s : State) (v : Vector Channel 8)
    (keeps : ∀ c : Fin 8, s.chans[c].Keeps s.resetHeld v[c]) : Move s (s.setChans v)
  | pin (s : State) (c : Fin 8) (l : Level) (held : s.resetHeld = true) :
    Move s (s.setChan c fun ch => { ch with sensed := l, filtered := l })
  | pos (s : State) (p : PositionUnit) (legal : s.pos.Legal → p.Legal) : Move s (s.setPos p)
  | meas (s : State) (m : MeasureUnit)
    (overrun : ∀ i : Fin 8, (s.meas.latches[i].overrun = true → s.meas.latches[i].isNew = true) →
      m.latches[i].overrun = true → m.latches[i].isNew = true) : Move s (s.setMeas m)
  | sched (s : State) (u : ScheduleUnit)
    (closed : s.isOpen = false → s.sched.entries = [] → u.entries = []) : Move s (s.setSched u)
  | disp (s : State) (d : DispatchUnit) (keeps : s.KeepsDisp d) : Move s (s.setDisp d)
  | time (s : State) (u : TimeUnit) (keeps : s.KeepsTime u) : Move s (s.setTime u)
  | runs (s : State) (recessive dominant errors : Nat)
    (few : errors ≤ 65535 ∨ errors = s.line.rxErrors) :
    Move s
      (s.setLine
        { s.line with recessiveRun := recessive, dominantRun := dominant, rxErrors := errors })
  | gap (s : State) (ticks : Nat) (on : s.rxOn = true) (due : s.gapDue ticks = true) :
    Move s (s.setLine { s.line.gapReceiver with stuck := false })
  | beginFrame (s : State) (free : s.line.rx = .free) : Move s s.beginFrame
  | stick (s : State) (ticks : Nat) (due : s.stuckDue ticks = true) :
    Move s
      (s.setLine { s.line with stuck := true, stuckTime := s.time.lineTime, stuckFor := 0 })
  | endFrame (s : State) (e : FrameEnding) (due : s.frameDue = true) :
    Move s (s.setLine (s.line.endFrame e.next))
  | attemptBegin (s : State) (due : s.attemptDue = true) : Move s s.attemptBegin
  | arbitrationLost (s : State) (dataBit : Nat) (due : s.lossDue dataBit = true) :
    Move s (s.arbitrationLost dataBit)
  | arbitrationWon (s : State) (due : s.winDue = true) : Move s s.arbitrationWon
  | bitError (s : State) (sample : Nat) (due : s.errorDue sample = true) :
    Move s
      (s.setLine
        { s.line.dropAttempt (sample / 10) with
          txq := s.countErrored s.line.txq, awaitGap := true })
  | complete (s : State) (due : s.completeDue = true) : Move s (s.setLine s.line.completeAttempt)
  | withdraw (s : State) : Move s (s.setLine { s.line with txq := withdrawSync s.line.txq })
  | placeSync (s : State) (round : s.time.syncTimer.isSome = true) : Move s s.placeSync
  | placeLeave (s : State) (due : s.leavePlaceDue = true) : Move s s.placeLeave
  | configure (s : State) (g : StationConfig) (config : s.station.mode = .config) :
    Move s (s.setStation { s.station with cfg := g })
  | listen (s : State) (released : s.resetHeld = false) (config : s.station.mode = .config)
    (checked : s.joinCheck = none) (empty : s.time.peers = []) :
    Move s
      ((s.setLine s.line.startReceiver).setStation
        { s.station with mode := .listen, listenTimer := some s.station.cfg.listenTicks })
  | stepped (s : State) (c : JoinChoice) (period : Nat) (due : s.listenDue = true)
    (opens : c.mode = .active ∨ c.mode = .drifted) :
    Move s
      (((s.setTime (s.time.joinStep c period)).setLine (s.line.joinStep c.step)).setStation
        { s.station with mode := c.mode, listenTimer := none })
  | round (s : State) (m : StationMode) (closed : s.isOpen = false → m = s.station.mode)
    (opened : s.isOpen = true → m = .active ∨ m = .drifted) :
    Move s (s.setStation { s.station with mode := m })
  | leaving (s : State) (taken : s.takesLeave = true)
    (dispatch : s.disp.queue = [] ∧ s.disp.current = none) (schedule : s.sched.entries = []) :
    Move s
      ((s.setTime s.time.stopSync).setStation
        { s.station with
          mode := .leaving, listenTimer := none, leaveTimer := some s.station.cfg.leaveTicks })
  | config (s : State)
    (left : s.station.mode = .leaving ∨ ∃ n ∈ s.line.txq, n.isLeave = true) :
    Move s s.configEntered
  | restart (s : State) (dispatch : s.disp.queue = [] ∧ s.disp.current = none)
    (schedule : s.sched.entries = []) : Move s (s.configEntered.setTime s.time.restart)
  | hardReset (s : State) (held : Bool) : Move s (s.hardReset held)
  | tick (s : State) : Move s s.tick

/-- Moves, one after the other. -/
abbrev Moves : State → State → Prop := Relation.ReflTransGen Move

end Sys2Proof.Machine
end

section
/-! SUPPORT. The moves of each operation that blocks share. -/

namespace Sys2Proof.Machine

open Relation.ReflTransGen

theorem Move.moves {s t : State} (h : Move s t) : Moves s t := single h

section Emission

variable (s : State)

theorem reportAt_moves (time : LineTime) (b : ReportBody) : Moves s (s.reportAt time b) :=
  (Move.report s time b).moves

theorem report_moves (b : ReportBody) : Moves s (s.report b) := reportAt_moves s _ b

theorem reportAll_moves (l : List ReportBody) : Moves s (s.reportAll l) := by
  induction l generalizing s with
  | nil => exact refl
  | cons b l ih => exact (report_moves s b).trans (ih (s.report b))

theorem arrive_moves (o : Occurrence) : Moves s (s.arrive o) := by
  unfold State.arrive
  split
  · exact refl
  · rename_i opened
    split
    · rename_i room
      exact (Move.arrive s o (by simpa using opened) room).moves
    · exact report_moves s _

theorem handOver_moves (p : Priority) (o : Occurrence) : Moves s (s.handOver p o) := by
  unfold State.handOver
  split
  · exact refl
  · rename_i opened
    split
    · rename_i room
      exact (Move.handOver s p o (by simpa using opened) room).moves
    · exact report_moves s _

theorem raise_moves (scope : Scope) (p : Priority) (o : Occurrence) : Moves s (s.raise scope p o) := by
  cases scope
  · exact arrive_moves s o
  · exact handOver_moves s p o

theorem fireRow_moves (r : Fin 32) (time : LineTime) (v : Option Value32) :
    Moves s (s.fireRow r time v) := by
  simp only [State.fireRow]
  split
  · exact raise_moves ..
  · exact refl

theorem derive_moves (g : Generation) (e : Fin 64) (d : EventDesc) (o : Occurrence) :
    Moves s (s.derive g e d o) := by
  unfold State.derive
  (repeat' split)
  · exact refl
  · exact report_moves s _
  · exact raise_moves ..

theorem fireDerived_moves (r : Fin 32) (c : Cause) (time : LineTime) (v : Option Value32)
    (restamped : Bool) : Moves s (s.fireDerived r c time v restamped) := by
  simp only [State.fireDerived]
  split
  · exact derive_moves ..
  · exact refl

theorem endEvent_moves (e : SchedEntry) : Moves s (s.endEvent e) := by
  unfold State.endEvent
  split
  · exact refl
  · exact derive_moves ..

end Emission

/-! ### Channels (R138 to R148) -/

section Channels

variable {c : Channel}

/-- The readback check makes a channel legal whose other parts are (R146). -/
theorem Channel.recheck_legal (output : c.out.isSome = (c.cfg.direction == .output))
    (candidate : c.cand.isSome = (c.sensed != c.filtered))
    (holdOff : c.holdOff.isSome = (c.out == some .heldOff))
    (still : c.driven = false → c.mismatch = none) : c.recheck.Legal := by
  unfold Channel.recheck
  split
  · rename_i driven
    have enabled : c.out = some .enabled := by simpa [Channel.driven] using driven
    split
    · rename_i agree
      exact ⟨output, candidate, by simp [agree], holdOff⟩
    · rename_i differ
      exact ⟨output, candidate, by simp [Channel.driven, enabled, differ], holdOff⟩
  · rename_i idle
    have idle : c.driven = false := by simpa using idle
    exact ⟨output, candidate, by simp [still idle, idle], holdOff⟩

/-- The readback check changes the mismatch timer alone (R146). -/
theorem Channel.recheck_eq (c : Channel) : ∃ m, c.recheck = { c with mismatch := m } := by
  unfold Channel.recheck
  (repeat' split)
  · exact ⟨_, rfl⟩
  · exact ⟨_, rfl⟩
  · exact ⟨c.mismatch, rfl⟩

theorem Channel.Legal.still (h : c.Legal) (idle : c.driven = false) : c.mismatch = none := by
  simpa [idle] using h.mismatch

theorem Channel.Keeps.rfl {held : Bool} : c.Keeps held c := ⟨id, id, fun _ => id, fun _ => id⟩

variable (c) (held : Bool)

theorem Channel.takeLevel_keeps (l : Level) : c.Keeps held (c.takeLevel l) := by
  obtain ⟨m, is⟩ := Channel.recheck_eq { c with lastCmd := l }
  refine ⟨fun h => Channel.recheck_legal h.output h.candidate h.holdOff h.still, ?_, ?_, ?_⟩ <;>
    simp [Channel.takeLevel, is]

theorem Channel.toRest_keeps : c.Keeps held c.toRest := by
  unfold Channel.toRest
  split
  · exact c.takeLevel_keeps held _
  · exact .rfl

theorem Channel.enable_keeps (output : c.out.isSome = true) : c.Keeps held c.enable := by
  obtain ⟨m, is⟩ :=
    Channel.recheck_eq { c with out := some .enabled, mismatch := none, holdOff := none }
  refine ⟨fun h => Channel.recheck_legal ?_ h.candidate rfl fun _ => rfl, ?_, ?_, ?_⟩
  · have := h.output
    simp_all
  all_goals simp [Channel.enable, is]

theorem Channel.holdOffNow_keeps (driven : c.driven = true) : c.Keeps held c.holdOffNow := by
  have enabled : c.out = some .enabled := by simpa [Channel.driven] using driven
  refine ⟨fun h => ⟨?_, h.candidate, rfl, rfl⟩, id, fun _ => id, fun _ => id⟩
  have := h.output
  simp_all [Channel.holdOffNow]

theorem Channel.disable_keeps (heldOff : c.out = some .heldOff) :
    c.Keeps held { c with out := some .disabled, holdOff := none } := by
  refine ⟨fun h => ⟨?_, h.candidate, ?_, rfl⟩, id, fun _ => id, fun _ => id⟩
  · have := h.output
    simp_all
  · have still := h.still (by simp [Channel.driven, heldOff])
    simp [still, Channel.driven]

theorem Channel.acceptChange_keeps (e : Edge) : c.Keeps held (c.acceptChange e) := by
  refine ⟨fun h => ⟨h.output, ?_, h.mismatch, h.holdOff⟩, fun _ => ?_, fun _ => id, fun _ _ => rfl⟩
  · simp [Channel.acceptChange]
  · simp [Channel.acceptChange, pushEdge, Config.fifoCapacity]

theorem Channel.configure_keeps (g : ChanConfig) : c.Keeps false (c.configure g) := by
  unfold Channel.configure
  split
  · rename_i was is
    exact ⟨fun h => ⟨by simpa [was, is] using h.output, h.candidate, h.mismatch, h.holdOff⟩, id,
      nofun, nofun⟩
  · rename_i was is
    obtain ⟨m, same⟩ :=
      Channel.recheck_eq
        { c with cfg := g, lastCmd := g.rest, out := some .enabled, mismatch := none, holdOff := none }
    refine ⟨fun h => Channel.recheck_legal (by simp [is]) h.candidate rfl fun _ => rfl, fun few => ?_,
      nofun, nofun⟩
    simpa only [Channel.enable, same] using few
  · rename_i was is
    exact ⟨fun h => ⟨by simp [is], h.candidate, rfl, rfl⟩, id, nofun, nofun⟩
  · rename_i was is
    have kept := Channel.toRest_keeps { c with cfg := g } false
    exact ⟨fun h => kept.legal ⟨by simpa [was, is] using h.output, h.candidate, h.mismatch, h.holdOff⟩,
      kept.fifo, nofun, nofun⟩

theorem Channel.filterTransition_keeps (now : LineTime) (level : Level) :
    c.Keeps false (c.filterTransition now level).recheck := by
  obtain ⟨m, is⟩ := Channel.recheck_eq (c.filterTransition now level)
  refine ⟨fun h => ?_, fun few => ?_, nofun, nofun⟩
  · unfold Channel.filterTransition
    split
    · rename_i back
      exact Channel.recheck_legal h.output (by simp [back]) h.holdOff h.still
    · rename_i away
      exact Channel.recheck_legal h.output (by simp [away]) h.holdOff h.still
  · rw [is]
    unfold Channel.filterTransition
    split <;> exact few

theorem Channel.joinStep_keeps (d : BitVec 48) : c.Keeps held (c.joinStep d) :=
  ⟨fun h => ⟨h.output, by simpa [Channel.joinStep] using h.candidate, h.mismatch, h.holdOff⟩,
    fun _ => Nat.zero_le _, fun _ => id, fun _ still => by simp [Channel.joinStep, still]⟩

theorem Channel.emptyFifo_keeps : c.Keeps held { c with fifo := [] } :=
  ⟨fun h => ⟨h.output, h.candidate, h.mismatch, h.holdOff⟩, fun _ => Nat.zero_le _, fun _ => id,
    fun _ => id⟩

end Channels

section ChannelTable

variable (s : State)

theorem setChan_moves {c : Fin 8} {f : Channel → Channel}
    (keeps : s.chans[c].Keeps s.resetHeld (f s.chans[c])) : Moves s (s.setChan c f) := by
  refine (Move.chans s _ fun d => ?_).moves
  by_cases same : c = d
  · subst same
    simpa using keeps
  · have other : ¬c.val = d.val := fun h => same (Fin.ext h)
    simpa [other] using Channel.Keeps.rfl

theorem mapChans_moves {f : Nat → Channel → Channel} (keeps : ∀ i c, Channel.Keeps s.resetHeld c (f i c)) :
    Moves s (s.setChans (mapVec s.chans f)) :=
  (Move.chans s _ fun d => by simpa using keeps d.val s.chans[d]).moves

theorem updateOutputs_moves (mask levels : Byte) : Moves s (s.updateOutputs mask levels) := by
  refine mapChans_moves s fun i c => ?_
  split
  · exact c.takeLevel_keeps _ _
  · exact .rfl

theorem restOutputs_moves : Moves s s.restOutputs := mapChans_moves s fun _ c => c.toRest_keeps _

theorem stepChannels_moves (d : BitVec 48) : Moves s (s.stepChannels d) :=
  mapChans_moves s fun _ c => c.joinStep_keeps _ d

theorem emptyFifos_moves : Moves s s.emptyFifos := mapChans_moves s fun _ c => c.emptyFifo_keeps _

theorem readbackFault_moves {c : Fin 8} (due : s.chans[c].faultDue = true) :
    Moves s (s.readbackFault c) := by
  have driven : s.chans[c].driven = true := by
    simp only [Channel.faultDue, Bool.and_eq_true] at due
    exact due.1
  exact ((setChan_moves s (s.chans[c].holdOffNow_keeps _ driven)).trans (report_moves _ _)).trans
    (fireRow_moves ..)

theorem holdOffExpiry_moves {c : Fin 8} (due : s.chans[c].restoreDue = true) :
    Moves s (s.holdOffExpiry c) := by
  have heldOff : s.chans[c].out = some .heldOff := by
    simp only [Channel.restoreDue, Bool.and_eq_true, beq_iff_eq] at due
    exact due.1
  unfold State.holdOffExpiry
  split
  · exact (setChan_moves s (s.chans[c].enable_keeps _ (Option.isSome_of_mem heldOff))).trans (report_moves _ _)
  · exact setChan_moves s (s.chans[c].disable_keeps _ heldOff)

theorem acceptEdge_moves (c : Fin 8) (e : Option Edge) : Moves s (s.acceptEdge c e) := by
  unfold State.acceptEdge
  split
  · exact setChan_moves s (Channel.acceptChange_keeps _ _ _)
  · exact refl

theorem fireEdge_moves (c : Fin 8) (e : Option Edge) : Moves s (s.fireEdge c e) := by
  unfold State.fireEdge
  (repeat' split)
  · exact fireRow_moves ..
  · exact refl
  · exact refl

end ChannelTable

/-! ### The position unit and the reader (R156 to R165) -/

section Position

variable (s : State)

theorem preset_legal {p : PositionUnit} (v : Value32) (h : p.Legal) : (p.preset v).Legal := { h with }

theorem counted_legal {p : PositionUnit} (e : HandOver) (h : p.Legal) : (p.counted e).Legal := { h with }

theorem toRecovery_legal {p : PositionUnit} (g : EncConfig) (word : List Level)
    (record : p.record.isSome = true) : (p.toRecovery g word).Legal :=
  ⟨record, rfl, nofun, rfl⟩

theorem setPos_moves (p : PositionUnit) (legal : s.pos.Legal → p.Legal) : Moves s (s.setPos p) :=
  (Move.pos s p legal).moves

theorem presetPos_moves (v : Value32) : Moves s (s.presetPos v) :=
  (Move.pos s _ (preset_legal v)).moves

theorem takeHandOver_moves (h : HandOver) : Moves s (s.takeHandOver h) := by
  have counted := (Move.pos s (s.pos.counted h) (counted_legal h)).moves
  simp only [State.takeHandOver]
  split
  · exact counted.trans (fireRow_moves ..)
  · exact counted

theorem handEdges_moves (e0 e1 : Option Edge) : Moves s (s.handEdges e0 e1) := by
  simp only [State.handEdges]
  split
  · exact takeHandOver_moves ..
  · exact refl

theorem countPair_moves (oneFirst : Bool) : Moves s (s.countPair oneFirst) := by
  have handed (e0 e1 : Option Edge) :
      Moves s (((s.acceptEdge 0 e0).acceptEdge 1 e1).handEdges e0 e1) :=
    ((acceptEdge_moves ..).trans (acceptEdge_moves ..)).trans (handEdges_moves ..)
  simp only [State.countPair]
  split
  · exact ((handed ..).trans (fireEdge_moves ..)).trans (fireEdge_moves ..)
  · exact ((handed ..).trans (fireEdge_moves ..)).trans (fireEdge_moves ..)

theorem countEdge_moves (c : Fin 8) : Moves s (s.countEdge c) := by
  simp only [State.countEdge]
  (repeat' split)
  · exact countPair_moves ..
  · exact countPair_moves ..
  · exact (acceptEdge_moves ..).trans (fireEdge_moves ..)

theorem pinTransition_moves (released : s.resetHeld = false) (c : Fin 8) (l : Level) :
    Moves s (s.pinTransition c l) := by
  have counted : Moves s (s.countedBefore c) := by
    unfold State.countedBefore
    split
    · exact countEdge_moves s c
    · exact refl
  refine counted.trans (setChan_moves _ ?_)
  simpa [released] using Channel.filterTransition_keeps _ _ l

theorem captureRequest_moves (c : Cause) : Moves s (s.captureRequest c) := by
  unfold State.captureRequest
  split
  · exact refl
  · split
    · refine (Move.pos s _ fun h => ⟨rfl, rfl, ?_, ?_⟩).moves
      · rintro r left - is at_
        cases is
        cases at_
        cases s.pos.cfg.enc.clock <;> simp [EncClock.period]
      · rename_i idle
        exact h.recovery.trans (by rw [idle]; rfl)
    · exact report_moves ..
    · exact report_moves ..

theorem readComplete_moves (r : ReadRecord) (samples : List Level) (record : s.pos.record.isSome = true) :
    Moves s (s.readComplete r samples) := by
  have legal := toRecovery_legal r.enc samples record
  have completed (v : Value32) (time : Option LineTime) :
      ({ s.pos.toRecovery r.enc samples with absPos := v, absStamp := time } : PositionUnit).Legal :=
    { legal with }
  simp only [State.readComplete]
  split
  · exact (Move.pos s _ fun _ => completed ..).moves.trans (fireDerived_moves ..)
  · exact ((Move.pos s _ fun _ => legal).moves.trans (report_moves ..)).trans (fireDerived_moves ..)

theorem endShifting_moves : Moves s s.endShifting := by
  unfold State.endShifting
  split
  · rename_i record
    exact readComplete_moves s _ _ (by simp [record])
  · exact refl

theorem recoveryExpiry_moves (due : s.recoveryDue = true) : Moves s s.recoveryExpiry := by
  have recovering : s.pos.reader = .recovery := by
    simp only [State.recoveryDue, Bool.and_eq_true, beq_iff_eq] at due
    exact due.1
  have idle : Moves s (s.setPos { s.pos with reader := .idle, recovery := none, record := none }) :=
    setPos_moves s _ fun h => ⟨rfl, h.shifting.trans (by rw [recovering]; rfl), nofun, rfl⟩
  simp only [State.recoveryExpiry]
  split
  · exact idle.trans (fireDerived_moves ..)
  · exact idle

theorem abandonRead_legal {p : PositionUnit} (h : p.Legal) : p.abandonRead.Legal := by
  unfold PositionUnit.abandonRead
  split
  · rename_i record
    exact toRecovery_legal _ _ (by simp [record])
  · exact h
  · exact h
  · exact h

end Position

/-! ### Comparators, latches and measurements (R170 to R179) -/

section Measure

variable (s : State)

theorem setMeas_moves (m : MeasureUnit) (same : m.latches = s.meas.latches) : Moves s (s.setMeas m) :=
  (Move.meas s m fun i legal => by rw [same]; exact legal).moves

theorem writeLatch_moves (slot : Fin 8) (v : Value32) (acting : LineTime) (src : PosSource) :
    Moves s (s.writeLatch slot v acting src) := by
  refine (Move.meas s _ fun i legal => ?_).moves
  by_cases same : slot.val = i.val
  · simp [same, LatchSlot.write]
  · simpa [same] using legal

theorem latchRequest_moves (c : Cause) (v : Value32) (acting : LineTime) (src : PosSource)
    (slot : Fin 8) (publish : Option EventDesc) :
    Moves s (s.latchRequest c v acting src slot publish) := by
  simp only [State.latchRequest]
  split
  · exact writeLatch_moves ..
  · exact (writeLatch_moves ..).trans (derive_moves ..)

theorem forwardBranch_moves (k : Fin 2) (c : Cause) (v : Value32) (acting : LineTime) (outcome : Bool) :
    Moves s (s.forwardBranch k c v acting outcome) := by
  have latched (slot : Option (Fin 8)) (src : PosSource) :
      Moves s (s.forwardLatch slot v acting src) := by
    unfold State.forwardLatch
    split
    · exact writeLatch_moves ..
    · exact refl
  exact (latched ..).trans (fireDerived_moves ..)

theorem compareRequest_moves (c : Cause) (v : Value32) (acting : LineTime) (k : Fin 2) :
    Moves s (s.compareRequest c v acting k) := by
  have recorded (outcome : Bool) : Moves s (s.recordOutcome k outcome) :=
    setMeas_moves s _ rfl
  simp only [State.compareRequest]
  (repeat' split)
  · exact refl
  · exact (recorded _).trans (forwardBranch_moves ..)
  · exact recorded _

theorem clearCmp_moves (k : Fin 2) : Moves s (s.clearCmp k) := setMeas_moves s _ rfl

theorem clearCmps_moves : Moves s s.clearCmps := setMeas_moves s _ rfl

theorem measureRequest_moves (c : Cause) (e : Option Edge) (slot : Fin 8) :
    Moves s (s.measureRequest c e slot) := setMeas_moves s _ rfl

theorem readLatch_moves (index : Nat) : Moves s (s.readLatch index) := by
  unfold State.readLatch
  split
  · rename_i slot _
    refine (Move.meas s _ fun i legal => ?_).moves
    by_cases same : slot.val = i.val
    · simp [same, LatchSlot.readByHost]
    · simpa [same] using legal
  · exact refl

end Measure

end Sys2Proof.Machine
end

section
/-! SUPPORT. The moves of the schedule, the dispatcher, line time and the station controller. -/

namespace Sys2Proof.Machine

open Relation.ReflTransGen

/-! ### The schedule (R46 to R59) -/

section Schedule

variable (s : State)

theorem setSched_moves (u : ScheduleUnit)
    (closed : s.isOpen = false → s.sched.entries = [] → u.entries = []) : Moves s (s.setSched u) :=
  (Move.sched s u closed).moves

theorem setSched_moves_of_open (opened : s.isOpen = true) (u : ScheduleUnit) : Moves s (s.setSched u) :=
  setSched_moves s u fun closed => by simp [opened] at closed

/-- What follows a phase is a new stamping or the end event, and neither before the phase has been applied. -/
theorem expireEntry_cases (e : SchedEntry) :
    (∃ x, s.expireEntry e = (s.applyPhase e).stampEntry x) ∨
      s.expireEntry e = (s.applyPhase e).endEvent (e.afterPhase s) := by
  simp only [State.expireEntry, State.afterExpiry, State.repetition]
  (repeat' split)
  · exact .inl ⟨_, rfl⟩
  · exact .inl ⟨_, rfl⟩
  · exact .inl ⟨_, rfl⟩
  · exact .inr rfl

/-- The expiry of an entry taken out of a schedule: the schedule changes at once, then the outputs. -/
theorem expireEntry_moves {u : ScheduleUnit} (e : SchedEntry)
    (closed : s.isOpen = false → s.sched.entries ≠ []) : Moves s ((s.setSched u).expireEntry e) := by
  have changed (w : ScheduleUnit) : Moves s (s.setSched w) :=
    setSched_moves s w fun c empty => absurd empty (closed c)
  obtain ⟨x, is⟩ | is := expireEntry_cases (s.setSched u) e
  · rw [is]
    exact (changed _).trans (updateOutputs_moves (s.setSched _) e.mask e.levels)
  · rw [is]
    exact ((changed u).trans (updateOutputs_moves ..)).trans (endEvent_moves ..)

theorem scheduleExpiry_moves : Moves s s.scheduleExpiry := by
  unfold State.scheduleExpiry
  split
  · exact refl
  · rename_i head
    exact expireEntry_moves s _ fun _ => by simp [head]

theorem drive_moves (p : DriveParams) (c : Cause) : Moves s (s.drive p c) := by
  unfold State.drive
  split
  · exact refl
  · rename_i opened
    have opened : s.isOpen = true := by simpa using opened
    (repeat' split)
    · exact report_moves ..
    · exact setSched_moves_of_open s opened _
    · exact (report_moves ..).trans (expireEntry_moves _ _ fun c => by simp [State.isOpen] at c opened; simp_all)

theorem cancelAll_moves (tag : BitVec 4) (l : List SchedEntry) : Moves s (State.cancelAll tag l s) := by
  induction l generalizing s with
  | nil => exact refl
  | cons e l ih =>
    refine .trans ?_ (ih _)
    split
    · unfold State.cancelOne
      split
      · exact report_moves ..
      · exact (updateOutputs_moves ..).trans (report_moves ..)
    · exact refl

theorem isOpen_scheduleExpiry : s.scheduleExpiry.isOpen = s.isOpen :=
  State.isOpen_of_station (by simp)

theorem expireBefore_moves (tag : BitVec 4) (n : Nat) (left : List SchedEntry) (opened : s.isOpen = true) :
    Moves s (State.expireBefore tag n left s) := by
  induction n generalizing s left with
  | zero => exact setSched_moves_of_open s opened _
  | succ n ih =>
    have chosen := (Move.choices s 1).moves
    simp only [State.expireBefore]
    (repeat' split)
    · exact setSched_moves_of_open s opened _
    · exact setSched_moves_of_open s opened _
    · exact chosen.trans (setSched_moves_of_open (s.useChoices 1) opened _)
    · exact (chosen.trans (setSched_moves_of_open (s.useChoices 1) opened _)).trans (ih _ _ opened)
    · exact (chosen.trans (scheduleExpiry_moves _)).trans
        (ih _ _ ((isOpen_scheduleExpiry _).trans opened))

theorem cancel_moves (tag : BitVec 4) : Moves s (s.cancel tag) := by
  unfold State.cancel
  split
  · exact refl
  · rename_i opened
    have opened : s.isOpen = true := by simpa using opened
    have expired := expireBefore_moves s tag Config.cancelLookahead [] opened
    refine expired.trans ((cancelAll_moves _ tag _).trans (setSched_moves_of_open _ ?_ _))
    exact (State.isOpen_of_station (by simp)).trans opened

theorem flushSchedule_moves : Moves s s.flushSchedule :=
  ((setSched_moves s _ fun _ _ => rfl).trans (restOutputs_moves _)).trans (report_moves ..)

end Schedule

/-! ### The dispatcher (R14 to R32) -/

section Dispatcher

variable (s : State)

theorem setDisp_moves (d : DispatchUnit) (keeps : s.KeepsDisp d) : Moves s (s.setDisp d) :=
  (Move.disp s d keeps).moves

theorem DispatchUnit.Counts.of_actions {d d' : DispatchUnit} (h : d.Counts)
    (actions : ∀ i : Fin 64, d'.subs[i].action = d.subs[i].action)
    (underWay : d'.underWay = d.underWay ∨ d'.underWay = none) : d'.Counts where
  table i p drives := h.table i p ((actions i).symm.trans drives)
  underWay r p under drives := by
    obtain same | done := underWay
    · exact h.underWay r p (same.symm.trans under) drives
    · rw [done] at under
      cases under

theorem updVec_action (v : Vector SubEntry 64) (i : Fin 64) {f : SubEntry → SubEntry}
    (same : ∀ e, (f e).action = e.action) (j : Fin 64) : (updVec v i f)[j].action = v[j].action := by
  by_cases here : i.val = j.val
  · simp [here, same]
  · simp [here]

theorem leaveUnderWay_moves {r : Request} (counts : s.disp.Counts → ∀ p, r.action = .drive p → p.Counts) :
    Moves s (s.leaveUnderWay r) :=
  setDisp_moves s _
    ⟨le_rfl, fun _ q c => ⟨q, c⟩, id, fun h => ⟨h.table, fun r' p under drives => by
      cases under
      exact counts h p drives⟩⟩

theorem takeRequest_moves (r : Request) : Moves s (s.takeRequest r) := by
  unfold State.takeRequest
  split
  · exact drive_moves ..
  · exact cancel_moves ..
  · exact latchRequest_moves ..
  · exact captureRequest_moves ..
  · exact compareRequest_moves ..
  · exact measureRequest_moves ..
  · exact presetPos_moves ..

theorem takeUnderWay_moves : Moves s s.takeUnderWay := by
  unfold State.takeUnderWay
  split
  · refine (setDisp_moves s { s.disp with underWay := none } ?_).trans (takeRequest_moves ..)
    exact ⟨le_rfl, fun _ q c => ⟨q, c⟩, id, fun h => h.of_actions (fun _ => rfl) (.inr rfl)⟩
  · exact refl

theorem disarmOnce_moves (i : Fin 64) : Moves s (s.disarmOnce i) := by
  unfold State.disarmOnce
  split
  · rename_i once
    refine setDisp_moves s _
      ⟨le_rfl, fun _ q c => ⟨q, c⟩, fun armed j every => ?_,
        fun h => h.of_actions (updVec_action _ i fun _ => rfl) (.inl rfl)⟩
    by_cases same : i.val = j.val
    · simp [same] at every once
      simp [every] at once
    · simp [same] at every ⊢
      exact armed j every
  · exact refl

theorem disarmOnce_actions (i j : Fin 64) :
    (s.disarmOnce i).disp.subs[j].action = s.disp.subs[j].action := by
  unfold State.disarmOnce
  split
  · exact updVec_action s.disp.subs i (f := fun e => { e with armed := false }) (fun _ => rfl) j
  · rfl

theorem examine_moves (i : Fin 64) (o : Occurrence) : Moves s (s.examine i o) := by
  have chosen (t : State) := (Move.choices t 1).moves
  simp only [State.examine]
  split
  · refine (disarmOnce_moves s i).trans ?_
    unfold State.passOn
    split
    · exact (chosen _).trans (takeRequest_moves ..)
    · exact (chosen _).trans
        (leaveUnderWay_moves _ fun h p drives => h.table i p ((disarmOnce_actions s i i).trans drives))
  · exact refl

theorem dispatchStart_moves : Moves s s.dispatchStart := by
  unfold State.dispatchStart
  split
  · exact refl
  · rename_i queue
    exact setDisp_moves s _
      ⟨by simp [queue], fun _ empty _ => by simp [queue] at empty, id,
        fun h => h.of_actions (fun _ => rfl) (.inl rfl)⟩

theorem advanceScan_moves : Moves s s.advanceScan :=
  setDisp_moves s _ ⟨le_rfl, fun _ q c => ⟨q, c⟩, id, fun h => h.of_actions (fun _ => rfl) (.inl rfl)⟩

theorem entryExamined_moves : Moves s s.entryExamined := by
  unfold State.entryExamined
  split
  · exact ((takeUnderWay_moves s).trans (examine_moves ..)).trans (advanceScan_moves _)
  · exact refl
  · exact refl

theorem endDispatch_moves : Moves s s.endDispatch :=
  setDisp_moves s _ ⟨le_rfl, fun _ q _ => ⟨q, rfl⟩, id, fun h => h.of_actions (fun _ => rfl) (.inl rfl)⟩

theorem closeDispatch_moves : Moves s s.closeDispatch :=
  setDisp_moves s _ ⟨Nat.zero_le _, fun _ _ _ => ⟨rfl, rfl⟩, id, fun h => h.of_actions (fun _ => rfl) (.inl rfl)⟩

theorem armAll_moves : Moves s s.armAll :=
  setDisp_moves s _
    ⟨le_rfl, fun _ q c => ⟨q, c⟩, fun _ i _ => by simp, fun h => h.of_actions (fun _ => by simp) (.inl rfl)⟩

theorem armOne_moves (i : Fin 64) : Moves s (s.armOne i) := by
  refine setDisp_moves s _ ⟨le_rfl, fun _ q c => ⟨q, c⟩, fun armed j every => ?_,
    fun h => h.of_actions (updVec_action _ i fun _ => rfl) (.inl rfl)⟩
  by_cases same : i.val = j.val
  · simp [same]
  · simp [same] at every ⊢
    exact armed j every

theorem storeSub_moves {v : Vector Byte 48} {e : SubEntry} (checked : checkSub v = .ok e) (i : Fin 64) :
    Moves s (s.storeSub i e) := by
  refine setDisp_moves s _ ⟨le_rfl, fun _ q c => ⟨q, c⟩, fun armed j every => ?_, fun h => ?_⟩
  · by_cases same : i.val = j.val
    · simp [same, armed_of_checkSub checked]
    · simp [same] at every ⊢
      exact armed j every
  · refine ⟨fun j p drives => ?_, h.underWay⟩
    by_cases same : i.val = j.val
    · simp [same] at drives
      exact counts_of_checkSub checked drives
    · simp [same] at drives
      exact h.table j p drives

end Dispatcher

end Sys2Proof.Machine
end

section
/-! SUPPORT. The moves of line time, the station controller and the line engine. -/

namespace Sys2Proof.Machine

open Relation.ReflTransGen

/-! ### The peer time table (R73 to R81) -/

section Peers

variable {s : State}

theorem mem_insertPeer {r x : PeerRecord} {l : List PeerRecord} :
    x ∈ insertPeer r l ↔ x = r ∨ x ∈ l := by
  induction l with
  | nil => simp [insertPeer]
  | cons y l ih =>
    simp only [insertPeer]
    split
    · simp
    · simp only [List.mem_cons, ih]
      tauto

theorem length_insertPeer (r : PeerRecord) (l : List PeerRecord) :
    (insertPeer r l).length = l.length + 1 := by
  induction l with
  | nil => rfl
  | cons y l ih =>
    simp only [insertPeer]
    split <;> simp [ih]

theorem insertPeer_ascending {r : PeerRecord} {l : List PeerRecord}
    (sorted : l.Pairwise fun a b => a.station.toNat < b.station.toNat)
    (fresh : ∀ x ∈ l, x.station ≠ r.station) :
    (insertPeer r l).Pairwise fun a b => a.station.toNat < b.station.toNat := by
  induction l with
  | nil => simp [insertPeer]
  | cons y l ih =>
    obtain ⟨first, sorted⟩ := List.pairwise_cons.mp sorted
    simp only [insertPeer]
    split
    · rename_i before
      refine List.pairwise_cons.mpr ⟨fun x mem => ?_, List.pairwise_cons.mpr ⟨first, sorted⟩⟩
      rcases List.mem_cons.mp mem with rfl | mem
      · exact before
      · exact before.trans (first x mem)
    · rename_i behind
      refine List.pairwise_cons.mpr
        ⟨fun x mem => ?_, ih sorted fun x mem => fresh x (List.mem_cons_of_mem _ mem)⟩
      rcases mem_insertPeer.mp mem with rfl | mem
      · have := fresh y List.mem_cons_self
        have : y.station.toNat ≠ x.station.toNat := fun h => this (BitVec.eq_of_toNat_eq h)
        omega
      · exact first x mem

theorem findPeer_eq_none {l : List PeerRecord} {n : StationNo}
    (unknown : (findPeer l n).isSome = false) : ∀ x ∈ l, x.station ≠ n := by
  simpa [findPeer] using unknown

/-- Some of the records, each with its station and no older than the age limit. -/
theorem keepsPeers_of_map {f : PeerRecord → PeerRecord} {l : List PeerRecord}
    (some_of : l.Sublist s.time.peers) (same : ∀ r, (f r).station = r.station)
    (young : ∀ r ∈ l, r.age ≤ 3 → (f r).age ≤ 3) : s.KeepsPeers (l.map f) := by
  refine ⟨fun few => ?_, fun sorted => ?_, fun others => ?_, fun ages => ?_⟩
  · have := some_of.length_le
    simp only [List.length_map]
    omega
  · rw [List.pairwise_map]
    simpa only [same] using sorted.sublist some_of
  · simp only [List.forall_mem_map, same]
    exact fun r mem => others r (some_of.subset mem)
  · simp only [List.forall_mem_map]
    exact fun r mem => young r mem (ages r (some_of.subset mem))

theorem keepsPeers_of_sublist {l : List PeerRecord} (some_of : l.Sublist s.time.peers) :
    s.KeepsPeers l := by
  simpa using keepsPeers_of_map (f := id) some_of (fun _ => rfl) fun _ _ => id

theorem keepsPeers_insert {l : List PeerRecord} {r : PeerRecord} (some_of : l.Sublist s.time.peers)
    (room : s.time.peers.length ≤ 24 → l.length < 24) (fresh : ∀ x ∈ s.time.peers, x.station ≠ r.station)
    (other : r.station.setWidth 8 ≠ s.station.cfg.station) (young : r.age ≤ 3) :
    s.KeepsPeers (insertPeer r l) := by
  have old := keepsPeers_of_sublist some_of
  refine ⟨fun few => ?_, fun sorted => ?_, fun others => ?_, fun ages => ?_⟩
  · have := room few
    rw [length_insertPeer]
    omega
  · exact insertPeer_ascending (old.ascending sorted) fun x mem => fresh x (some_of.subset mem)
  · intro x mem
    rcases mem_insertPeer.mp mem with rfl | mem
    · exact other
    · exact old.others others x mem
  · intro x mem
    rcases mem_insertPeer.mp mem with rfl | mem
    · exact young
    · exact old.young ages x mem

theorem setTime_moves {u : TimeUnit} (keeps : s.KeepsTime u) : Moves s (s.setTime u) :=
  (Move.time s u keeps).moves

theorem setPeers_moves {l : List PeerRecord} (keeps : s.KeepsPeers l) : Moves s (s.setPeers l) :=
  setTime_moves ⟨rfl, rfl, .inl rfl, keeps⟩

variable (s)

theorem keepsPeers_rfl : s.KeepsPeers s.time.peers := keepsPeers_of_sublist (List.Sublist.refl _)

variable {s} {n : StationNo} {seq : Byte} {synced : Bool} {stamp : LineTime}

theorem createPeer_moves (room : s.time.peers.length < 24)
    (unknown : (findPeer s.time.peers n).isSome = false)
    (other : n.setWidth 8 ≠ s.station.cfg.station) : Moves s (s.createPeer n seq synced stamp) := by
  refine (setPeers_moves ?_).trans (report_moves ..)
  exact keepsPeers_insert (List.Sublist.refl _) (fun _ => room) (findPeer_eq_none unknown) other (by simp)

theorem removePeer_sublist (l : List PeerRecord) (n : StationNo) : (removePeer l n).Sublist l :=
  List.filter_sublist

theorem length_removePeer_lt {l : List PeerRecord} {r : PeerRecord} (mem : r ∈ l) :
    (removePeer l r.station).length < l.length :=
  List.length_filter_lt_length_iff_exists.mpr ⟨r, mem, by simp⟩

/-- The record of greatest age goes and the new one takes its place, both before the two reports. -/
theorem replacePeer_moves (unknown : (findPeer s.time.peers n).isSome = false)
    (other : n.setWidth 8 ≠ s.station.cfg.station) : Moves s (s.replacePeer n seq synced stamp) := by
  unfold State.replacePeer
  split
  · rename_i old found
    have few := length_removePeer_lt (oldestPeer_mem found).1
    have keeps := keepsPeers_insert (s := s) (l := removePeer s.time.peers old.station)
      (r := { station := n, stamp := stamp, seq := seq, offset := .absent, synced := synced, age := 0 })
      (removePeer_sublist _ _) (by omega) (findPeer_eq_none unknown) other (by simp)
    exact ((setPeers_moves keeps).trans (report_moves _ (.peerLost old.station .replaced))).trans
      (report_moves ..)
  · split
    · exact refl
    · refine (setTime_moves ?_).trans (report_moves ..)
      exact ⟨rfl, rfl, .inl rfl, keepsPeers_rfl s⟩

theorem takeSync_moves (prev : Option LineTime) : Moves s (s.takeSync n seq synced stamp prev) := by
  unfold State.takeSync
  split
  · exact refl
  · split
    · exact report_moves ..
    · rename_i other
      split
      · refine setPeers_moves (keepsPeers_of_map (List.Sublist.refl _) (fun r => ?_) fun r _ young => ?_)
        · split <;> rfl
        · split
          · exact Nat.zero_le _
          · exact young
      · rename_i unknown
        have unknown : (findPeer s.time.peers n).isSome = false := by simpa using unknown
        split
        · rename_i room
          exact createPeer_moves room unknown other
        · exact replacePeer_moves unknown other

theorem takeLeave_moves : Moves s (s.takeLeave n) := by
  unfold State.takeLeave
  split
  · exact (setPeers_moves (keepsPeers_of_sublist (removePeer_sublist _ _))).trans (report_moves ..)
  · exact refl

variable (s)

theorem clearErrors_moves : Moves s s.clearErrors :=
  (Move.runs s s.line.recessiveRun s.line.dominantRun 0 (.inl (Nat.zero_le _))).moves

theorem roundPeers_keeps : s.KeepsPeers (roundPeers s.time.peers) := by
  rw [roundPeers_eq]
  refine keepsPeers_of_map List.filter_sublist (fun _ => rfl) fun r mem _ => ?_
  have young := (List.mem_filter.mp mem).2
  simp only [decide_eq_true_iff] at young
  change r.age + 1 ≤ 3
  omega

theorem roundNext_of_closed (closed : s.isOpen = false) : s.roundNext = s.station.mode := by
  unfold State.roundNext
  cases mode : s.station.mode with
  | active => simp [State.isOpen, mode] at closed
  | drifted => simp [State.isOpen, mode] at closed
  | _ => rfl

theorem roundNext_of_open (opened : s.isOpen = true) :
    s.roundNext = .active ∨ s.roundNext = .drifted := by
  have opened : s.station.mode = .active ∨ s.station.mode = .drifted := by
    simpa [State.isOpen] using opened
  unfold State.roundNext
  rw [roundMode_of_open opened]
  (repeat' split) <;> simp

theorem syncRound_moves (due : s.syncRoundDue = true) : Moves s s.syncRound := by
  have running : s.time.syncTimer.isSome = true := by
    simp only [State.syncRoundDue, beq_iff_eq] at due
    simp [due]
  have timed : Moves s (s.setTime s.roundTime) :=
    setTime_moves ⟨rfl, by rw [running]; rfl, .inr running, roundPeers_keeps s⟩
  have moded := (Move.round (s.setTime s.roundTime) s.roundNext (roundNext_of_closed s)
    (roundNext_of_open s)).moves
  have reported := (timed.trans moded).trans ((clearErrors_moves _).trans (reportAll_moves _ s.allRoundReports))
  refine (reported.trans (Move.placeSync _ ?_).moves).trans (Move.choices ..).moves
  simp [State.roundTime]

end Peers

end Sys2Proof.Machine
end

section
/-! SUPPORT. The moves of the station controller, the line engine and the host port, and so of every step. -/

namespace Sys2Proof.Machine

open Relation.ReflTransGen

/-! ### The host port's own state (R181 to R190) -/

section Host

variable (s : State)

theorem setHost_moves (h : HostUnit) (reports : h.reports = s.host.reports)
    (live : h.captureLive = true → s.host.captureLive = true) : Moves s (s.setHost h) :=
  (Move.host s h reports live).moves

theorem record_moves (source : Byte) (o : CmdOutcome) (detail : Byte) : Moves s (s.record source o detail) :=
  setHost_moves s _ rfl id

theorem taken_moves (source : Byte) : Moves s (s.taken source) := record_moves ..

theorem refuse_moves (source : Byte) : Moves s (s.refuse source) := record_moves ..

theorem clearError_moves : Moves s s.clearError := setHost_moves s _ rfl id

theorem checkFailed_moves (source : Byte) (e : ConfigError) : Moves s (s.checkFailed source e) :=
  setHost_moves s _ rfl id

theorem accessRefused_moves (address : Byte) : Moves s (s.accessRefused address) := record_moves ..

theorem hostWrite_moves (address : BitVec 7) : Moves s (s.hostWrite address) :=
  setHost_moves s _ rfl nofun

theorem reading_live (h : HostUnit) (address : BitVec 7) (byte : Byte)
    (live : (h.reading address byte).captureLive = true) : h.captureLive = true := by
  simp only [HostUnit.reading, Bool.and_eq_true] at live
  exact live.1

theorem takeSnapshot_moves : Moves s s.takeSnapshot :=
  setHost_moves s _ rfl (reading_live s.host 0x10 (s.time.lineTime.setWidth 8))

theorem loadByte_moves (address : BitVec 7) : Moves s (s.loadByte address) :=
  setHost_moves s _ rfl fun live => reading_live s.host _ _ live

theorem writeIndex_moves (index : Byte) : Moves s (s.writeIndex index) := by
  have loaded := setHost_moves s { s.host with tableIndex := index, staging := s.loaded index } rfl id
  simp only [State.writeIndex, State.loadEffect]
  split
  · exact loaded.trans (readLatch_moves ..)
  · exact loaded

theorem writeData_moves (offset : Nat) (value : Byte) : Moves s (s.writeData offset value) := by
  unfold State.writeData
  split
  · exact setHost_moves s _ rfl id
  · exact accessRefused_moves ..

end Host

/-! ### The station controller (R95 to R104) -/

section Station

variable {s : State}

theorem joinable_of_check (checked : s.joinCheck = none) : s.station.cfg.joinable = true := by
  obtain ⟨station, sync, limits, rate, -⟩ := (joinCheck_eq_none_iff s).mp checked
  simp [StationConfig.joinable, station, sync, limits, rate]

theorem joinTaken_moves (released : s.resetHeld = false) (config : s.station.mode = .config)
    (checked : s.joinCheck = none) : Moves s s.joinTaken := by
  have emptied : Moves s (s.setTime s.time.emptyPeers) :=
    setTime_moves ⟨rfl, rfl, .inl rfl, keepsPeers_of_sublist (List.nil_sublist _)⟩
  have listening :=
    (Move.listen (s.setTime s.time.emptyPeers).armAll released config checked rfl).moves
  exact ((((emptied.trans (armAll_moves _)).trans listening).trans (clearError_moves _)).trans
    (taken_moves ..)).trans (report_moves ..)

theorem join_moves (released : s.resetHeld = false) : Moves s s.join := by
  unfold State.join
  split
  · exact refuse_moves ..
  · rename_i config
    split
    · exact checkFailed_moves ..
    · rename_i checked
      exact joinTaken_moves released (by simpa [State.inConfig] using config) checked

theorem closePeriod_moves (s : State) : Moves s s.closePeriod :=
  (reportAll_moves ..).trans (clearErrors_moves _)

theorem closePeriod_line (s : State) : s.closePeriod.line = { s.line with rxErrors := 0 } := by
  simp [State.closePeriod, State.clearErrors]

theorem enterConfig_moves (left : s.station.mode = .leaving ∨ ∃ n ∈ s.line.txq, n.isLeave = true)
    (cause : StateCause) : Moves s (s.enterConfig cause) := by
  refine ((closePeriod_moves s).trans (Move.config _ ?_).moves).trans (report_moves ..)
  simpa [closePeriod_line] using left

/-- What the entry to CONFIG leaves does not depend on what the line engine was just doing. -/
theorem enterConfig_setLine {l : LineEngine} (off : l.off = s.line.off)
    (errors : l.rxErrors = s.line.rxErrors) (cause : StateCause) :
    (s.setLine l).enterConfig cause = s.enterConfig cause := by
  have closed : ({ l with rxErrors := 0 } : LineEngine).off =
      ({ s.line with rxErrors := 0 } : LineEngine).off :=
    congrArg (fun x : LineEngine => { x with rxErrors := 0 }) off
  by_cases none_counted : s.line.rxErrors = 0
  · simp [State.enterConfig, State.closePeriod, State.periodReports, errors, none_counted,
      State.reportAll, State.clearErrors, closed]
    rfl
  · simp [State.enterConfig, State.closePeriod, State.periodReports, errors, none_counted,
      State.reportAll, State.clearErrors, closed]
    rfl

theorem leaveTimeout_moves (due : s.leaveTimeoutDue = true) : Moves s s.leaveTimeout := by
  simp only [State.leaveTimeoutDue, Bool.and_eq_true, beq_iff_eq] at due
  exact (reportAll_moves ..).trans (enterConfig_moves (.inl (by simp [due.1])) _)

theorem leaveTaken_moves (takes : s.takesLeave = true) : Moves s s.leaveTaken := by
  have flushed := (closeDispatch_moves s).trans (flushSchedule_moves _)
  have withdrawn := flushed.trans (Move.withdraw _).moves
  have left := withdrawn.trans
    (Move.leaving (s.closeDispatch.flushSchedule.setLine _) takes ⟨rfl, rfl⟩ rfl).moves
  exact (left.trans (taken_moves _ 2)).trans (report_moves ..)

theorem leave_moves : Moves s s.leave := by
  unfold State.leave
  split
  · rename_i takes
    exact leaveTaken_moves takes
  · exact refuse_moves ..

/-- RESTART with the blocks cleared one after the other, the station and its clock last. -/
theorem restart_moves : Moves s s.restart := by
  have cleared := ((closeDispatch_moves s).trans (armAll_moves _)).trans
    ((emptyFifos_moves _).trans (clearCmps_moves _))
  have abandoned := cleared.trans (setPos_moves _ _ abandonRead_legal)
  have flushed := (abandoned.trans (Move.emptyReports _).moves).trans (flushSchedule_moves _)
  have counted := flushed.trans (setSched_moves _ { entries := [], counter := 0 } fun _ _ => rfl)
  have restarted := (counted.trans (clearErrors_moves _)).trans (Move.restart _ ⟨rfl, rfl⟩ rfl).moves
  exact (restarted.trans (taken_moves _ 3)).trans (report_moves ..)

theorem joinStep_moves (due : s.listenDue = true) {c : JoinChoice}
    (opens : c.mode = .active ∨ c.mode = .drifted) : Moves s (s.joinStep c) := by
  have period : Moves s (s.listenPeriod (BitVec.ofInt 48 c.step)) := by
    unfold State.listenPeriod
    split
    · exact refl
    · exact ((reportAt_moves ..).trans (clearErrors_moves _)).trans (Move.choices ..).moves
  have stepped := period.trans (Move.stepped (s.listenPeriod _) c
    (s.listenPeriod (BitVec.ofInt 48 c.step)).station.cfg.period
    (by simpa [State.listenDue] using due) opens).moves
  have moved := stepped.trans (stepChannels_moves _ (BitVec.ofInt 48 c.step))
  exact (moved.trans (Move.placeSync _ rfl).moves).trans (report_moves ..)

theorem joinChoice_opens (l : List PeerRecord) :
    (joinChoice l).mode = .active ∨ (joinChoice l).mode = .drifted := by
  simp only [joinChoice]
  (repeat' split) <;> simp

theorem listenExpiry_moves (due : s.listenDue = true) : Moves s s.listenExpiry :=
  joinStep_moves due (joinChoice_opens _)

theorem rearmSub_moves : Moves s s.rearmSub := by
  unfold State.rearmSub
  (repeat' split)
  · exact refuse_moves ..
  · exact (armOne_moves ..).trans (taken_moves ..)
  · exact record_moves ..

theorem rearmCmp_moves : Moves s s.rearmCmp := by
  unfold State.rearmCmp
  (repeat' split)
  · exact refuse_moves ..
  · exact (clearCmp_moves ..).trans (taken_moves ..)
  · exact record_moves ..

theorem restore_moves : Moves s s.restore := by
  unfold State.restore
  (repeat' split)
  · exact record_moves ..
  · exact record_moves ..
  · rename_i c _ _ disabled
    have output : s.chans[c.val].out.isSome = true := by
      cases out : s.chans[c.val].out with
      | none => simp [out, restoreDetail] at disabled
      | some _ => rfl
    exact ((setChan_moves s (Channel.enable_keeps _ _ output)).trans (taken_moves ..)).trans
      (report_moves ..)

theorem inject_moves : Moves s s.inject := by
  unfold State.inject
  (repeat' split)
  · exact refuse_moves ..
  · exact record_moves ..
  · exact (raise_moves ..).trans (taken_moves ..)

theorem command_moves (released : s.resetHeld = false) (value : Byte) : Moves s (s.command value) := by
  unfold State.command
  (repeat' split)
  · exact join_moves released
  · exact leave_moves
  · exact restart_moves
  · exact rearmSub_moves
  · exact rearmCmp_moves
  · exact restore_moves
  · exact inject_moves
  · exact record_moves ..

end Station

/-! ### STORE (R187) -/

section Store

variable {s : State}

theorem storeChecked_moves {α : Type} (r : Checked α) {f : State → α → State}
    (written : ∀ a, r = .ok a → Moves s (f s a)) : Moves s (s.storeChecked r f) := by
  unfold State.storeChecked
  split
  · exact ((written _ rfl).trans (clearError_moves _)).trans (taken_moves ..)
  · exact checkFailed_moves ..

theorem storeStation_moves (config : s.station.mode = .config) : Moves s s.storeStation :=
  (Move.configure s _ config).moves

theorem storeBinding_moves (r : Fin 32) (b : BindingRow) : Moves s (s.storeBinding r b) :=
  setDisp_moves s _ ⟨le_rfl, fun _ q c => ⟨q, c⟩, id, fun h => h.of_actions (fun _ => rfl) (.inl rfl)⟩

theorem storeCmp_moves (k : Fin 2) (g : CmpConfig) : Moves s (s.storeCmp k g) :=
  (setMeas_moves s { s.meas with cmpCfg := updVec s.meas.cmpCfg k fun _ => g } rfl).trans
    (clearCmp_moves ..)

theorem storeChan_moves (released : s.resetHeld = false) (c : Fin 8) (g : ChanConfig) :
    Moves s (s.storeChan c g) :=
  setChan_moves s (by rw [released]; exact Channel.configure_keeps _ g)

theorem storePos_moves (g : PosConfig) : Moves s (s.storePos g) := by
  unfold State.storePos
  split
  · exact setPos_moves s _ fun h => { h with }
  · exact setPos_moves s _ fun h => { h with }

theorem storeRecord_moves (released : s.resetHeld = false) (config : s.station.mode = .config) :
    Moves s s.storeRecord := by
  simp only [State.storeRecord, State.storeStationAt, State.storeBindingAt, State.storeSubAt,
    State.storeCmpAt, State.storeChanAt, State.storePosAt]
  have failed (e : ConfigError) := checkFailed_moves s 0x40 e
  (repeat' split)
  · exact storeChecked_moves _ fun _ _ => storeStation_moves config
  · exact failed _
  · exact storeChecked_moves _ fun _ _ => storeBinding_moves ..
  · exact failed _
  · exact storeChecked_moves _ fun _ checked => storeSub_moves _ checked _
  · exact failed _
  · exact storeChecked_moves _ fun _ _ => storeCmp_moves ..
  · exact failed _
  · exact storeChecked_moves _ fun _ _ => storeChan_moves released ..
  · exact failed _
  · exact storeChecked_moves _ fun _ _ => storePos_moves _
  · exact failed _

theorem store_moves (released : s.resetHeld = false) : Moves s s.store := by
  unfold State.store
  split
  · rename_i writable
    simp only [State.tableWritable, State.inConfig, Bool.and_eq_true, beq_iff_eq] at writable
    exact storeRecord_moves released writable.1
  · exact record_moves ..

theorem writeRegister_moves (released : s.resetHeld = false) (a : Nat) (value : Byte) :
    Moves s (s.writeRegister a value) := by
  unfold State.writeRegister
  (repeat' split)
  · exact setHost_moves s _ rfl id
  · exact command_moves released _
  · exact setHost_moves s _ rfl id
  · exact writeIndex_moves ..
  · exact store_moves released
  · exact writeData_moves ..
  · exact accessRefused_moves ..
  · exact refl

theorem readRegister_moves (address : BitVec 7) : Moves s (s.readRegister address) := by
  simp only [State.readRegister, State.behindByte7]
  (repeat' split)
  · exact takeSnapshot_moves s
  · exact (Move.captureHead s).moves
  · exact (Move.removeHead s).moves.trans (loadByte_moves ..)
  · exact loadByte_moves ..

theorem portByte_moves (released : s.resetHeld = false) (command : Byte) (data : Option Byte) :
    Moves s (s.portByte command data) := by
  unfold State.portByte State.dataByte
  (repeat' split)
  · exact (hostWrite_moves ..).trans (writeRegister_moves (s := s.hostWrite _) released ..)
  · exact readRegister_moves _
  · exact setHost_moves s _ rfl nofun

end Store

/-! ### The line engine (R110 to R127) -/

section Line

variable {s : State}

theorem runs_moves (s : State) (recessive dominant errors : Nat)
    (few : errors ≤ 65535 ∨ errors = s.line.rxErrors) :
    Moves s
      (s.setLine
        { s.line with recessiveRun := recessive, dominantRun := dominant, rxErrors := errors }) :=
  (Move.runs s recessive dominant errors few).moves

theorem gap_moves (on : s.rxOn = true) (ticks : Nat) : Moves s (s.gap ticks) := by
  have read := runs_moves s ticks 0 s.line.rxErrors (.inr rfl)
  by_cases due : s.gapDue ticks = true
  · have freed := read.trans (Move.gap (s.setLine (s.line.readRecessive ticks)) ticks on due).moves
    rw [gap_of_due due]
    by_cases stuck : (s.line.readRecessive ticks).gapReceiver.stuck = true
    · rw [freeLine_of_stuck stuck]
      exact (freed.trans (report_moves ..)).trans (Move.choices ..).moves
    · have clear : (s.line.readRecessive ticks).gapReceiver.stuck = false := by simpa using stuck
      rw [freeLine_of_clear clear, show (s.line.readRecessive ticks).gapReceiver =
        { (s.line.readRecessive ticks).gapReceiver with stuck := false } by rw [← clear]]
      exact freed
  · rw [gap_of_not_due due]
    exact read

theorem startEdge_moves (s : State) (startSample : Level) : Moves s (s.startEdge startSample) := by
  have read := runs_moves s 0 s.line.dominantRun s.line.rxErrors (.inr rfl)
  simp only [State.startEdge]
  split
  · rename_i begins
    exact read.trans (Move.beginFrame (s.setLine { s.line with recessiveRun := 0 }) begins.1).moves
  · exact read

theorem lineStuck_moves (s : State) (ticks : Nat) : Moves s (s.lineStuck ticks) := by
  have read := runs_moves s 0 ticks s.line.rxErrors (.inr rfl)
  simp only [State.lineStuck]
  split
  · rename_i due
    exact (read.trans (Move.stick (s.setLine (s.line.readDominant ticks)) ticks due).moves).trans
      (report_moves ..)
  · exact read

theorem deliver_moves (edge : LineTime) (r : Received) : Moves s (s.deliver edge r) := by
  unfold State.deliver
  split
  · exact takeSync_moves _
  · exact takeLeave_moves
  · exact arrive_moves ..

theorem frameEnd_moves (due : s.frameDue = true) (f : RxFrame) (chars : List CharSample) :
    Moves s (s.frameEnd f chars) := by
  refine (Move.endFrame s (readChars chars f.bytes).2 due).moves.trans ?_
  simp only [State.frameEnd, State.receive]
  split
  · exact runs_moves _ _ _ _ (.inl (Nat.min_le_right _ _))
  · exact deliver_moves ..

theorem txNotice_mem {q : List Notice} {n : Notice} (found : txNotice q = some n) : n ∈ q :=
  List.mem_of_find?_eq_some found

theorem bitError_moves {sample : Nat} (due : s.errorDue sample = true) : Moves s (s.bitError sample) := by
  have dropped := (Move.bitError s sample due).moves
  simp only [State.bitError]
  split
  · rename_i n found
    split
    · unfold State.abandon
      split
      · exact dropped.trans (report_moves ..)
      · exact dropped
      · rename_i leave
        rw [enterConfig_setLine (by rfl) (by rfl)]
        exact enterConfig_moves (.inr ⟨n, txNotice_mem found, by simp [Notice.isLeave, leave]⟩) _
    · exact dropped
  · exact dropped

theorem attemptComplete_moves (due : s.completeDue = true) (f : RxFrame) :
    Moves s (s.attemptComplete f) := by
  have ended := (Move.complete s due).moves
  simp only [State.attemptComplete]
  split
  · rename_i n found
    unfold State.completed
    split
    · exact ended.trans (setTime_moves ⟨rfl, rfl, .inl rfl, keepsPeers_rfl (s.setLine _)⟩)
    · exact ended.trans (arrive_moves ..)
    · rename_i leave
      rw [enterConfig_setLine (by rfl) (by rfl)]
      exact enterConfig_moves (.inr ⟨n, txNotice_mem found, by simp [Notice.isLeave, leave]⟩) _
  · exact ended

end Line

/-! ### Every step is made of moves -/

section Step

variable {s t : State}

theorem actIf_moves {due : Bool} {f : State → State} (h : actIf due s f = .next t)
    (does : due = true → s.resetHeld = false → Moves s (f s)) : Moves s t := by
  obtain rfl | ⟨hd, hr, rfl⟩ := actIf_next h
  · exact refl
  · exact does hd hr

theorem act_moves {f : State → State} (h : act s f = .next t)
    (does : s.resetHeld = false → Moves s (f s)) : Moves s t :=
  actIf_moves h fun _ => does

/-- A command of the command register: the write, then the command. -/
theorem act_write_moves {a : BitVec 7} {f : State → State}
    (h : act s (fun s => f (s.hostWrite a)) = .next t)
    (does : (s.hostWrite a).resetHeld = false → Moves (s.hostWrite a) (f (s.hostWrite a))) : Moves s t :=
  act_moves h fun released => (hostWrite_moves s a).trans (does released)

theorem hardReset_moves {e : ResetEdge} (h : execHardwareReset e s = .next t) : Moves s t := by
  cases e <;> cases h <;> exact (Move.hardReset ..).moves

theorem execPinTransition_moves {pin : Nat} {l : Level} (h : execPinTransition pin l s = .next t) :
    Moves s t := by
  unfold execPinTransition at h
  split at h
  · cases h
    (repeat' split)
    · rename_i held
      exact (Move.pin s _ l held).moves
    · exact refl
    · rename_i released _
      exact pinTransition_moves s (by simpa using released) _ l
  · cases h
    unfold State.edatLevel
    split
    · exact setPos_moves s _ fun h => { h with }
    · exact refl

theorem exec_moves {i : Instr} (h : exec i s = .next t) : Moves s t := by
  cases i with
  | join => exact act_write_moves h join_moves
  | leave => exact act_write_moves h fun _ => leave_moves
  | restart => exact act_write_moves h fun _ => restart_moves
  | rearmSub => exact act_write_moves h fun _ => rearmSub_moves
  | rearmCmp => exact act_write_moves h fun _ => rearmCmp_moves
  | restore => exact act_write_moves h fun _ => restore_moves
  | inject => exact act_write_moves h fun _ => inject_moves
  | store value => exact act_write_moves h store_moves
  | tableIndex value => exact act_write_moves (f := (State.writeIndex · value)) h fun _ => writeIndex_moves ..
  | tableData offset value =>
    exact actIf_moves (f := fun s => (s.hostWrite _).writeData offset value) h fun _ _ =>
      (hostWrite_moves ..).trans (writeData_moves ..)
  | timeSnapshot => exact act_moves h fun _ => takeSnapshot_moves s
  | reportWindow => exact act_moves h fun _ => (Move.captureHead s).moves
  | reportHeadRemove => exact act_moves h fun _ => (Move.removeHead s).moves
  | registerWrite command data =>
    exact act_moves (f := (State.portByte · command data)) h fun released =>
      portByte_moves released command data
  | hardwareReset edge => exact hardReset_moves h
  | gap ticks => exact actIf_moves (f := (State.gap · ticks)) h fun on _ => gap_moves on ticks
  | startEdge startSample => exact actIf_moves (f := (State.startEdge · startSample)) h fun _ _ => startEdge_moves ..
  | frameEnd chars =>
    simp only [exec, execFrameEnd] at h
    split at h
    · exact actIf_moves h fun due _ => frameEnd_moves due _ chars
    · cases h
      exact refl
  | lineStuck ticks => exact actIf_moves (f := (State.lineStuck · ticks)) h fun _ _ => lineStuck_moves ..
  | attemptBegin => exact actIf_moves h fun due _ => (Move.attemptBegin s due).moves
  | arbitrationLost dataBit =>
    exact
      actIf_moves (f := (State.arbitrationLost · dataBit)) h fun due _ => (Move.arbitrationLost s _ due).moves
  | arbitrationWon => exact actIf_moves h fun due _ => (Move.arbitrationWon s due).moves
  | bitError sample => exact actIf_moves (f := (State.bitError · sample)) h fun due _ => bitError_moves due
  | attemptComplete =>
    simp only [exec, execAttemptComplete] at h
    split at h
    · exact actIf_moves h fun due _ => attemptComplete_moves due _
    · cases h
      exact refl
  | leaveNoticePlaced => exact actIf_moves h fun due _ => (Move.placeLeave s due).moves
  | syncRound => exact actIf_moves h fun due _ => syncRound_moves s due
  | listenWindowExpiry => exact actIf_moves h fun due _ => listenExpiry_moves due
  | leaveTimeout => exact actIf_moves h fun due _ => leaveTimeout_moves due
  | dispatchStart => exact actIf_moves h fun _ _ => dispatchStart_moves s
  | entryExamined => exact actIf_moves h fun _ _ => entryExamined_moves s
  | dispatchComplete => exact actIf_moves h fun _ _ => endDispatch_moves s
  | scheduleExpiry => exact actIf_moves h fun _ _ => scheduleExpiry_moves s
  | pinTransition pin level => exact execPinTransition_moves h
  | edgeCounted channel =>
    simp only [exec, execEdgeCounted] at h
    split at h
    · exact actIf_moves h fun _ _ => countEdge_moves ..
    · cases h
      exact refl
  | readbackFault channel =>
    simp only [exec, execReadbackFault] at h
    split at h
    · exact actIf_moves h fun due _ => readbackFault_moves s due
    · cases h
      exact refl
  | holdOffExpiry channel =>
    simp only [exec, execHoldOffExpiry] at h
    split at h
    · exact actIf_moves h fun due _ => holdOffExpiry_moves s due
    · cases h
      exact refl
  | encoderReadComplete samples => exact actIf_moves h fun _ _ => endShifting_moves s
  | recoveryExpiry => exact actIf_moves h fun due _ => recoveryExpiry_moves s due
  | transactionEnd =>
    exact act_moves (f := fun s => s.setHost s.host.endTransaction) h fun _ =>
      setHost_moves s _ rfl nofun

/-- A step is made of moves: the command taken off the queue, or a free choice used, then what comes about. -/
theorem step_moves (h : step s = .next t) : Moves s t := by
  unfold step at h
  split at h
  · have chosen := (Move.choices s 1).moves
    unfold idle at h
    split at h
    · cases h
      exact refl
    · split at h
      · exact chosen.trans (exec_moves h)
      · cases h
        exact chosen.trans (takeUnderWay_moves _)
      · cases h
        exact chosen.trans (Move.tick _).moves
  · exact (Move.pending s _).moves.trans (exec_moves h)

/-- An invariant that every move keeps is kept by every step. -/
theorem step_keeps {P : State → Prop} (kept : ∀ s t, Move s t → P s → P t) (h : step s = .next t)
    (holds : P s) : P t := by
  have moves := step_moves h
  clear h
  induction moves with
  | refl => exact holds
  | tail _ move ih => exact kept _ _ move ih

end Step

end Sys2Proof.Machine
end

section
/-! PROOF of O22 and O57: how a report joins the queue, and that every move keeps the queue legal. -/

namespace Sys2Proof.Machine

/-! ### A report joins the queue (R189) -/

section Push

theorem isOpen_iff (r : Report) : r.isOpen = true ↔ ∃ n k, r.body = .queueOverflow n k true := by
  unfold Report.isOpen
  split
  · rename_i n k o is
    simp [is]
  · rename_i other
    simp only [Bool.false_eq_true, false_iff]
    rintro ⟨n, k, is⟩
    exact other _ _ _ is

theorem countOne?_of_closed {r : Report} (closed : r.isOpen = false) : r.countOne? = none := by
  unfold Report.countOne?
  split
  · rename_i is
    simp [Report.isOpen, is] at closed
  · rfl

theorem pushReport_of_open (q : List Report) (r : Report) (n : Nat) (k : Byte) (time : LineTime) :
    pushReport (q ++ [{ body := .queueOverflow n k true, time := time }]) r =
      q ++ [{ body := .queueOverflow (min (n + 1) 255) k true, time := time }] := by
  simp [pushReport, Report.countOne?, moreLost]

theorem pushReport_of_closed {q : List Report} (r : Report)
    (closed : ∀ x, q.getLast? = some x → x.isOpen = false) :
    pushReport q r =
      if q.length < 31 then q ++ [r]
      else if q.length = 31 then
        q ++ [{ body := .queueOverflow 1 r.body.code true, time := r.time }]
      else q := by
  have none_open : q.getLast?.bind Report.countOne? = none := by
    rw [Option.bind_eq_none_iff]
    exact fun x last => countOne?_of_closed (closed x last)
  have room : q.length + 1 < 32 ↔ q.length < 31 := by omega
  simp only [pushReport, none_open, Config.reportCapacity, Nat.reduceEqDiff, room]

theorem pushReport_never_empty (q : List Report) (r : Report) : pushReport q r ≠ [] := by
  unfold pushReport
  (repeat' split)
  · simp
  · simp
  · simp
  · rintro rfl
    simp_all [Config.reportCapacity]

end Push

/-- Settles O22: by whether the record at the tail is an open overflow record, and how many records stand. -/
theorem reportJoinsQueue : Obligations.ReportJoinsQueue := by
  unfold Obligations.ReportJoinsQueue
  refine ⟨fun q r closed => ⟨fun few => ?_, fun last_place => ?_⟩, pushReport_of_open, fun _ _ => rfl,
    fun s released => ?_⟩
  · rw [pushReport_of_closed r closed, if_pos few]
  · rw [pushReport_of_closed r closed, if_neg (by omega), if_pos last_place]
  · simp [State.intnAsserted, released]

/-! ### Legal queues (R189, R190) -/

/-- An open overflow record stands at the tail alone, and a full queue ends in one. -/
structure LegalReports (q : List Report) : Prop where
  openAtTail : ∀ r ∈ q.dropLast, r.isOpen = false
  fullIsOpen : q.length = 32 → (q.getLast?.map Report.isOpen) = some true
  atMost : q.length ≤ 32

section Legal

variable {q : List Report} {r : Report}

theorem LegalReports.push (h : LegalReports q) (r : Report) : LegalReports (pushReport q r) := by
  have few := pushReport_length_le r h.atMost
  rcases List.eq_nil_or_concat q with rfl | ⟨p, x, rfl⟩
  · refine ⟨?_, ?_, few⟩ <;> simp [pushReport, Config.reportCapacity]
  · rw [List.concat_eq_append] at *
    have clear : ∀ r ∈ p, r.isOpen = false := by simpa using h.openAtTail
    cases last : x.isOpen with
    | true =>
      obtain ⟨n, k, body⟩ := (isOpen_iff x).mp last
      obtain ⟨_, time⟩ := x
      subst body
      rw [pushReport_of_open] at few ⊢
      exact ⟨by simpa using clear, by simp [Report.isOpen], few⟩
    | false =>
      have short : (p ++ [x]).length ≠ 32 := fun full => by simpa [last] using h.fullIsOpen full
      have all_clear : ∀ r ∈ p ++ [x], r.isOpen = false := by
        simpa [or_imp, forall_and] using ⟨clear, last⟩
      rw [pushReport_of_closed r (by simpa using last)] at few ⊢
      split
      · exact ⟨by rw [List.dropLast_concat]; exact all_clear, fun full => by simp at full; simp at *; omega,
          by simp; simp at *; omega⟩
      · split
        · exact ⟨by rw [List.dropLast_concat]; exact all_clear, fun _ => by simp [Report.isOpen],
            by simp; simp at *; omega⟩
        · exact h

theorem LegalReports.nil : LegalReports [] := ⟨nofun, nofun, Nat.zero_le _⟩

theorem close_isOpen (r : Report) : r.close.isOpen = false := by
  unfold Report.close
  split
  · rfl
  · rename_i other
    unfold Report.isOpen
    split
    · rename_i is
      exact absurd is (other _ _ _)
    · rfl

theorem LegalReports.close (h : LegalReports q) : LegalReports (closeHead q) := by
  cases q with
  | nil => exact h
  | cons r q =>
    rcases q with _ | ⟨x, q⟩
    · exact ⟨nofun, nofun, Nat.succ_le_of_lt (by decide)⟩
    · refine ⟨fun y mem => ?_, by simpa [closeHead] using h.fullIsOpen, by simpa [closeHead] using h.atMost⟩
      simp only [closeHead, List.dropLast_cons_cons, List.mem_cons] at mem
      rcases mem with rfl | mem
      · exact close_isOpen r
      · exact h.openAtTail y (by simp [mem])

theorem LegalReports.tail (h : LegalReports q) : LegalReports q.tail := by
  cases q with
  | nil => exact h
  | cons r q =>
    have atMost := h.atMost
    refine ⟨fun y mem => h.openAtTail y ?_, fun full => ?_, ?_⟩
    · cases q with
      | nil => simp at mem
      | cons x q => simpa using .inr mem
    · simp at atMost full
      omega
    · simp at atMost ⊢
      omega

end Legal

/-! ### Every move keeps the report queue legal -/

section Kept

variable {s t : State}

theorem reportsLegal_iff (s : State) :
    s.ReportsLegal ↔
      LegalReports s.host.reports ∧ (s.host.captureLive = true → s.host.reports ≠ []) :=
  ⟨fun h => ⟨⟨h.openAtTail, h.fullIsOpen, h.atMost⟩, h.live⟩,
    fun ⟨h, live⟩ => ⟨h.openAtTail, h.fullIsOpen, h.atMost, live⟩⟩

theorem State.ReportsLegal.of_host (h : s.ReportsLegal) (same : t.host = s.host) : t.ReportsLegal := by
  rw [reportsLegal_iff, same, ← reportsLegal_iff]
  exact h

theorem move_keeps_reportsLegal (s t : State) (move : Move s t) (h : s.ReportsLegal) : t.ReportsLegal := by
  obtain ⟨queue, live⟩ := (reportsLegal_iff s).mp h
  cases move with
  | report time b =>
    exact (reportsLegal_iff _).mpr ⟨queue.push _, fun _ => pushReport_never_empty _ _⟩
  | captureHead =>
    refine (reportsLegal_iff _).mpr ⟨queue.close, fun captured => ?_⟩
    cases reports : s.host.reports with
    | nil => simp [State.captureHead, reports] at captured
    | cons r q => simp [State.captureHead, reports, closeHead]
  | removeHead =>
    rw [reportsLegal_iff]
    by_cases captured : s.host.readByte7.captureLive = true
    · simpa [State.removeHead, captured] using queue.tail
    · have same : s.host.readByte7.reports = s.host.reports := by
        unfold HostUnit.readByte7
        split <;> rfl
      simpa [State.removeHead, captured, same] using queue
  | emptyReports => exact (reportsLegal_iff _).mpr ⟨.nil, nofun⟩
  | host h reports stays =>
    refine (reportsLegal_iff _).mpr ⟨?_, fun captured => ?_⟩
    · simpa [reports] using queue
    · simpa [reports] using live (stays captured)
  | hardReset held => exact (reportsLegal_iff _).mpr ⟨.nil, nofun⟩
  | attemptBegin due => exact h.of_host (by simp)
  | placeSync round => exact h.of_host (by simp)
  | _ => exact h.of_host rfl

end Kept

/-- Settles O57: every move of a step keeps the queue legal. -/
theorem reportQueueKept : Obligations.ReportQueueKept := by
  unfold Obligations.ReportQueueKept
  exact fun s t legal h => step_keeps move_keeps_reportsLegal h legal

end Sys2Proof.Machine
end

section
/-! PROOF of O58: what each move does to the order and the marks of the transmit queue. -/

namespace Sys2Proof.Machine

/-! ### The queue's order, its SYNC and its tries (R121, R125) -/

/-- The notices in priority order, an own SYNC at priority 0, errored attempts at most 2. -/
structure LegalQueue (q : List Notice) : Prop where
  ordered : q.Pairwise fun a b => a.priority.toNat ≤ b.priority.toNat
  syncFirst : ∀ n ∈ q, n.isSync = true → n.priority = 0
  tries : ∀ n ∈ q, n.errored ≤ 2

section Queue

variable {q : List Notice} {n : Notice}

theorem placeNotice_ordered (h : q.Pairwise fun a b => a.priority.toNat ≤ b.priority.toNat) (n : Notice) :
    (placeNotice n q).Pairwise fun a b => a.priority.toNat ≤ b.priority.toNat := by
  induction q with
  | nil => simp [placeNotice]
  | cons m q ih =>
    obtain ⟨first, rest⟩ := List.pairwise_cons.mp h
    simp only [placeNotice]
    split
    · rename_i before
      refine List.pairwise_cons.mpr ⟨fun x mem => ?_, h⟩
      rcases List.mem_cons.mp mem with rfl | mem
      · exact before.le
      · exact before.le.trans (first x mem)
    · rename_i behind
      refine List.pairwise_cons.mpr ⟨fun x mem => ?_, ih rest⟩
      rcases mem_placeNotice.mp mem with rfl | mem
      · exact Nat.le_of_not_lt behind
      · exact first x mem

theorem LegalQueue.place (h : LegalQueue q) (sync : n.isSync = true → n.priority = 0)
    (few : n.errored ≤ 2) : LegalQueue (placeNotice n q) := by
  refine ⟨placeNotice_ordered h.ordered n, fun m mem => ?_, fun m mem => ?_⟩
  · rcases mem_placeNotice.mp mem with rfl | mem
    · exact sync
    · exact h.syncFirst m mem
  · rcases mem_placeNotice.mp mem with rfl | mem
    · exact few
    · exact h.tries m mem

theorem marksIn_placeNotice (clear : n.inTx = false) (q : List Notice) :
    marksIn (placeNotice n q) = marksIn q := by
  induction q with
  | nil => simp [placeNotice, marksIn, clear]
  | cons m q ih =>
    simp only [placeNotice]
    split
    · simp [marksIn, clear]
    · simp only [marksIn, List.countP_cons] at ih ⊢
      rw [ih]

/-- Some of the notices, each with its body and priority, tried at most twice. -/
theorem LegalQueue.map {l : List Notice} (h : LegalQueue q) (some_of : l.Sublist q) {f : Notice → Notice}
    (body : ∀ n, (f n).body = n.body) (priority : ∀ n, (f n).priority = n.priority)
    (tries : ∀ n ∈ l, n.errored ≤ 2 → (f n).errored ≤ 2) : LegalQueue (l.map f) := by
  refine ⟨?_, fun m mem => ?_, fun m mem => ?_⟩
  · rw [List.pairwise_map]
    simpa only [priority] using h.ordered.sublist some_of
  · obtain ⟨n, old, rfl⟩ := List.mem_map.mp mem
    have := h.syncFirst n (some_of.subset old)
    simpa only [Notice.isSync, body, priority] using this
  · obtain ⟨n, old, rfl⟩ := List.mem_map.mp mem
    exact tries n old (h.tries n (some_of.subset old))

theorem LegalQueue.sublist {l : List Notice} (h : LegalQueue q) (some_of : l.Sublist q) : LegalQueue l := by
  simpa using h.map (f := id) some_of (fun _ => rfl) (fun _ => rfl) fun _ _ => id

theorem LegalQueue.nil : LegalQueue [] := ⟨.nil, nofun, nofun⟩

/-- A notice marked is the head, and nothing else of the queue changes (R124). -/
theorem markHead_eq_set (q : List Notice) (waiting : (headNotice q).isSome = true) :
    ∃ pre n post, q = pre ++ n :: post ∧ n.inTx = false ∧
      markHead q = pre ++ { n with inTx := true } :: post := by
  induction q with
  | nil => simp [headNotice] at waiting
  | cons m q ih =>
    cases marked : m.inTx with
    | false => exact ⟨[], m, q, rfl, marked, by simp [markHead, marked]⟩
    | true =>
      obtain ⟨pre, n, post, rfl, clear, is⟩ := ih (by simpa [headNotice, marked] using waiting)
      exact ⟨m :: pre, n, post, rfl, clear, by simp [markHead, marked, is]⟩

theorem LegalQueue.markHead (h : LegalQueue q) (waiting : (headNotice q).isSome = true) :
    LegalQueue (markHead q) := by
  obtain ⟨pre, n, post, rfl, -, is⟩ := markHead_eq_set q waiting
  rw [is]
  obtain ⟨ordered, sync, tries⟩ := h
  refine ⟨?_, ?_, ?_⟩
  · simpa [List.pairwise_append] using ordered
  · intro m mem
    have same := sync n (by simp)
    rcases List.mem_append.mp mem with mem | mem
    · exact sync m (by simp [mem])
    · rcases List.mem_cons.mp mem with rfl | mem
      · exact same
      · exact sync m (by simp [mem])
  · intro m mem
    have same := tries n (by simp)
    rcases List.mem_append.mp mem with mem | mem
    · exact tries m (by simp [mem])
    · rcases List.mem_cons.mp mem with rfl | mem
      · exact same
      · exact tries m (by simp [mem])

theorem marksIn_markHead (waiting : (headNotice q).isSome = true) :
    marksIn (markHead q) = marksIn q + 1 := by
  obtain ⟨pre, n, post, rfl, clear, is⟩ := markHead_eq_set q waiting
  rw [is]
  simp [marksIn, clear]
  omega

theorem marksIn_eq_zero : marksIn q = 0 ↔ ∀ n ∈ q, n.inTx = false := by
  simp [marksIn, List.countP_eq_zero]

theorem marksIn_withdrawSync (q : List Notice) : marksIn (withdrawSync q) = marksIn q := by
  simp only [marksIn, withdrawSync, List.countP_filter]
  exact List.countP_congr fun n _ => by cases n.inTx <;> simp

end Queue

/-! ### Every move keeps the transmit queue legal -/

section Kept

variable {s t : State}

theorem transmitLegal_iff (s : State) :
    s.TransmitLegal ↔
      LegalQueue s.line.txq ∧
        marksIn s.line.txq = if s.line.attempt = .waitGap then 0 else 1 :=
  ⟨fun h => ⟨⟨h.ordered, h.syncFirst, h.tries⟩, h.marked⟩,
    fun ⟨h, marked⟩ => ⟨h.ordered, h.syncFirst, h.tries, marked⟩⟩

theorem State.TransmitLegal.of_line (h : s.TransmitLegal) (queue : t.line.txq = s.line.txq)
    (attempt : t.line.attempt = s.line.attempt) : t.TransmitLegal := by
  rw [transmitLegal_iff, queue, attempt, ← transmitLegal_iff]
  exact h

theorem State.TransmitLegal.joinTx (h : s.TransmitLegal) {n : Notice}
    (sync : n.isSync = true → n.priority = 0) (untried : n.errored = 0) (clear : n.inTx = false) :
    (s.joinTx n).TransmitLegal := by
  obtain ⟨queue, marked⟩ := (transmitLegal_iff s).mp h
  exact (transmitLegal_iff _).mpr
    ⟨queue.place sync (by omega), (marksIn_placeNotice clear _).trans marked⟩

/-- A queue without a mark, and no attempt. -/
theorem transmitLegal_of_idle (queue : LegalQueue t.line.txq) (attempt : t.line.attempt = .waitGap)
    (clear : ∀ n ∈ t.line.txq, n.inTx = false) : t.TransmitLegal :=
  (transmitLegal_iff t).mpr ⟨queue, by rw [if_pos attempt, marksIn_eq_zero]; exact clear⟩

theorem LegalQueue.handBack (s : State) {q : List Notice} (h : LegalQueue q) : LegalQueue (s.handBack q) :=
  h.map List.filter_sublist (fun _ => rfl) (fun _ => rfl) fun _ _ => id

theorem LegalQueue.countErrored (s : State) {q : List Notice} (h : LegalQueue q) :
    LegalQueue (s.countErrored q) := by
  refine h.map List.filter_sublist (fun n => ?_) (fun n => ?_) fun n mem tried => ?_
  · split <;> rfl
  · split <;> rfl
  · split
    · rename_i marked
      have kept := (List.mem_filter.mp mem).2
      simp only [marked, Bool.not_true, Bool.false_or, Bool.and_eq_true, Bool.not_eq_true'] at kept
      have := (lastTry_iff n).not.mp (by simp [kept.2])
      change n.errored + 1 ≤ 2
      omega
    · exact tried

theorem clear_handBack (s : State) (q : List Notice) : ∀ n ∈ s.handBack q, n.inTx = false := by
  intro n mem
  obtain ⟨m, -, rfl⟩ := List.mem_map.mp mem
  rfl

theorem clear_countErrored (s : State) (q : List Notice) : ∀ n ∈ s.countErrored q, n.inTx = false := by
  intro n mem
  obtain ⟨m, -, rfl⟩ := List.mem_map.mp mem
  split
  · rfl
  · rename_i clear
    simpa using clear

theorem clear_removeTx (q : List Notice) : ∀ n ∈ removeTx q, n.inTx = false := by
  simp [removeTx]

theorem gapReceiver_queue (l : LineEngine) :
    l.gapReceiver.txq = l.txq ∧ l.gapReceiver.attempt = l.attempt := by
  unfold LineEngine.gapReceiver
  split <;> exact ⟨rfl, rfl⟩

theorem passTicks_queue (l : LineEngine) (n : Int) :
    (l.passTicks n).txq = l.txq ∧ (l.passTicks n).attempt = l.attempt := by
  rw [passTicks_eq]
  exact ⟨rfl, rfl⟩

theorem tick_queue (l : LineEngine) (n : Int) (b : Option Nat) :
    (l.tick n b).txq = l.txq ∧ (l.tick n b).attempt = l.attempt := by
  unfold LineEngine.tick LineEngine.drive
  split <;> exact passTicks_queue l n

theorem winDue_arbitrating (due : s.winDue = true) : s.line.attempt = .arbitrating := by
  simp only [State.winDue, Bool.and_eq_true, beq_iff_eq] at due
  exact due.1.1

theorem attemptBegin_eq (waiting : (headNotice s.line.txq).isSome = true) :
    ∃ n, s.attemptBegin =
      s.setLine
        { s.line with
          attempt := .arbitrating, attemptBytes := s.noticeBytes n, txq := markHead s.line.txq
          txl := false } := by
  obtain ⟨n, head⟩ := Option.isSome_iff_exists.mp waiting
  exact ⟨n, by simp [State.attemptBegin, head]⟩

theorem move_keeps_transmitLegal (s t : State) (move : Move s t) (h : s.TransmitLegal) : t.TransmitLegal := by
  obtain ⟨queue, marked⟩ := (transmitLegal_iff s).mp h
  cases move with
  | handOver p o opened room => exact h.joinTx (by simp [Notice.isSync, eventNotice]) rfl rfl
  | placeSync round =>
    unfold State.placeSync
    split
    · exact h
    · exact h.joinTx (fun _ => rfl) rfl rfl
  | placeLeave due => exact h.joinTx (by simp [Notice.isSync]) rfl rfl
  | gap ticks on due => exact h.of_line (gapReceiver_queue _).1 (gapReceiver_queue _).2
  | attemptBegin due =>
    obtain ⟨-, idle, -, -, waiting⟩ := attemptDue_iff s |>.mp due
    obtain ⟨n, is⟩ := attemptBegin_eq waiting
    rw [is, transmitLegal_iff]
    refine ⟨queue.markHead waiting, ?_⟩
    simpa [idle, marksIn_markHead waiting] using marked
  | arbitrationLost dataBit due =>
    exact transmitLegal_of_idle (queue.handBack s) rfl (clear_handBack s _)
  | arbitrationWon due =>
    refine (transmitLegal_iff _).mpr ⟨queue, ?_⟩
    simpa [winDue_arbitrating due, State.arbitrationWon] using marked
  | bitError sample due =>
    exact transmitLegal_of_idle (queue.countErrored s) rfl (clear_countErrored s _)
  | complete due =>
    exact transmitLegal_of_idle (queue.sublist List.filter_sublist) rfl (clear_removeTx _)
  | withdraw =>
    exact (transmitLegal_iff _).mpr
      ⟨queue.sublist List.filter_sublist, (marksIn_withdrawSync _).trans marked⟩
  | stepped c period due opens =>
    exact h.of_line (passTicks_queue ..).1 (passTicks_queue ..).2
  | tick => exact h.of_line (tick_queue ..).1 (tick_queue ..).2
  | config left => exact transmitLegal_of_idle .nil rfl nofun
  | restart dispatch schedule => exact transmitLegal_of_idle .nil rfl nofun
  | hardReset held => exact transmitLegal_of_idle .nil rfl nofun
  | _ => exact h.of_line rfl rfl

end Kept

/-- Settles O58: every move of a step keeps the queue legal. -/
theorem transmitQueueKept : Obligations.TransmitQueueKept := by
  unfold Obligations.TransmitQueueKept
  exact fun s t legal h => step_keeps move_keeps_transmitLegal h legal

end Sys2Proof.Machine
end

section
/-! PROOF of O59: that a tick keeps channels and reader legal, and that every move does. -/

namespace Sys2Proof.Machine

/-! ### A tick (R139, R146, R147, R162) -/

section Tick

@[simp] theorem countDown_isSome (t : Option Nat) : (countDown t).isSome = t.isSome := by
  simp [countDown]

theorem Channel.tick_legal {c : Channel} (h : c.Legal) : c.tick.Legal :=
  ⟨h.output, by simpa [Channel.tick] using h.candidate,
    (countDown_isSome _).trans h.mismatch, (countDown_isSome _).trans h.holdOff⟩

/-- One more tick brings a rise of ECLK exactly at the middle of a clock period (R162). -/
theorem rises_count (g : EncConfig) (e : Nat) :
    (e + 1 + g.clock.period / 2) / g.clock.period =
      (e + g.clock.period / 2) / g.clock.period + if g.rises (e + 1) then 1 else 0 := by
  unfold EncConfig.rises
  cases g.clock <;> simp only [EncClock.period, beq_iff_eq] <;> split <;> omega

theorem sampled_of_left {p : PositionUnit} {r : ReadRecord} {left : Nat} (shifting : p.reader = .shifting)
    (record : p.record = some r) (at_ : p.shiftLeft = some (left + 1)) :
    p.sampled =
      if r.enc.rises (r.enc.shiftTicks - left) then p.shiftWord ++ [p.edat] else p.shiftWord := by
  simp [PositionUnit.sampled, shifting, record, at_]

theorem sampled_of_ended {p : PositionUnit} (ended : p.reader ≠ .shifting ∨ p.shiftLeft = some 0) :
    p.sampled = p.shiftWord := by
  unfold PositionUnit.sampled
  split
  · rename_i shifting _ at_
    rcases ended with other | ended
    · exact absurd shifting other
    · rw [ended] at at_
      cases at_
  · rfl

theorem PositionUnit.tick_legal {p : PositionUnit} (h : p.Legal) : p.tick.Legal := by
  refine ⟨h.record, (countDown_isSome _).trans h.shifting, ?_, (countDown_isSome _).trans h.recovery⟩
  intro r left shifting record after
  obtain ⟨before, at_, rfl⟩ := Option.map_eq_some_iff.mp after
  obtain ⟨within, word⟩ := h.sampled r before shifting record at_
  cases before with
  | zero =>
    have same : p.tick.shiftWord = p.shiftWord := sampled_of_ended (.inr at_)
    exact ⟨within, by rw [same]; exact word⟩
  | succ left =>
    have is : p.tick.shiftWord = _ := sampled_of_left shifting record at_
    refine ⟨Nat.le_of_succ_le within, ?_⟩
    obtain ⟨e, into⟩ : ∃ e, r.enc.shiftTicks - left = e + 1 := ⟨r.enc.shiftTicks - left - 1, by omega⟩
    have before : r.enc.shiftTicks - (left + 1) = e := by omega
    rw [before] at word
    rw [is, Nat.add_sub_cancel, into, rises_count, ← word]
    split <;> simp

end Tick

/-! ### Every move keeps the field side legal -/

section Kept

variable {s t : State}

theorem State.FieldLegal.reader (h : s.FieldLegal) : s.pos.Legal :=
  ⟨h.record, h.shifting, h.sampled, h.recovery⟩

theorem State.FieldLegal.with_pos (h : s.FieldLegal) {p : PositionUnit} (legal : p.Legal) :
    (s.setPos p).FieldLegal :=
  { h with
    record := legal.record, shifting := legal.shifting, sampled := legal.sampled
    recovery := legal.recovery }

theorem State.FieldLegal.with_chans (h : s.FieldLegal) {v : Vector Channel 8}
    (keeps : ∀ c : Fin 8, s.chans[c].Keeps s.resetHeld v[c]) : (s.setChans v).FieldLegal :=
  { h with
    channels := fun c => (keeps c).legal (h.channels c)
    heldInputs := fun held c => (keeps c).input held (h.heldInputs held c)
    heldFilters := fun held c => (keeps c).quiet held (h.heldFilters held c) }

theorem State.FieldLegal.of_blocks (h : s.FieldLegal) (chans : t.chans = s.chans)
    (held : t.resetHeld = s.resetHeld) (pos : t.pos = s.pos) (meas : t.meas = s.meas)
    (disp : t.disp = s.disp) : t.FieldLegal := by
  obtain ⟨_, _, _, _, _, _, _, _, _, _, _, _⟩ := t
  subst chans held pos meas disp
  exact { h with }

theorem forall_updVec {α : Type} {n : Nat} {v : Vector α n} {i : Fin n} {f : α → α} {Q : α → Prop}
    (old : ∀ j : Fin n, Q v[j]) (new : Q (f v[i])) : ∀ j : Fin n, Q (updVec v i f)[j] := by
  intro j
  by_cases same : i = j
  · subst same
    simpa using new
  · have other : ¬i.val = j.val := fun e => same (Fin.ext e)
    simpa [other] using old j

theorem forall_mapVec {α : Type} {n : Nat} {v : Vector α n} {f : Nat → α → α} {Q : α → Prop}
    (each : ∀ j : Fin n, Q (f j v[j])) : ∀ j : Fin n, Q (mapVec v f)[j] := fun j => by
  simpa using each j

/-- A channel of direction IN. -/
abbrev Channel.IsInput (c : Channel) : Prop := c.cfg.direction = .input

/-- A channel without a candidate. -/
abbrev Channel.Quiet (c : Channel) : Prop := c.cand = none

/-- A pin of a held input takes a level: sensed and filtered agree and no candidate is there (R106). -/
theorem Channel.held_keeps {c : Channel} (l : Level) (still : c.cand = none)
    (input : c.cfg.direction = .input) (h : c.Legal) :
    ({ c with sensed := l, filtered := l } : Channel).Legal := by
  have undriven : c.out = none := Option.isSome_eq_false_iff.mp (h.output.trans (by rw [input]; rfl)) |> Option.isNone_iff_eq_none.mp
  have no_check : c.mismatch = none := h.still (by simp [Channel.driven, undriven])
  exact ⟨h.output, by simp [still], by simp [no_check, Channel.driven, undriven], h.holdOff⟩

theorem Channel.reset_legal (l : Level) : (Channel.reset l).Legal := ⟨rfl, by simp [Channel.reset], rfl, rfl⟩

theorem move_keeps_fieldLegal (s t : State) (move : Move s t) (h : s.FieldLegal) : t.FieldLegal := by
  cases move with
  | chans v keeps => exact h.with_chans keeps
  | pin c l held =>
    have legal := Channel.held_keeps l (h.heldFilters held c) (h.heldInputs held c) (h.channels c)
    exact
      { h with
        channels := forall_updVec h.channels legal
        heldInputs := fun _ =>
          forall_updVec (Q := Channel.IsInput) (h.heldInputs held) (h.heldInputs held c)
        heldFilters := fun _ =>
          forall_updVec (Q := Channel.Quiet) (h.heldFilters held) (h.heldFilters held c) }
  | pos p legal => exact h.with_pos (legal h.reader)
  | meas m overrun => exact { h with overrun := fun i => overrun i (h.overrun i) }
  | disp d keeps => exact { h with everyArmed := keeps.armed h.everyArmed }
  | attemptBegin due => exact h.of_blocks (by simp) (by simp) (by simp) (by simp) (by simp)
  | placeSync round => exact h.of_blocks (by simp) (by simp) (by simp) (by simp) (by simp)
  | hardReset held =>
    exact
      { channels := forall_mapVec fun _ => Channel.reset_legal _
        heldInputs := fun _ => forall_mapVec (Q := Channel.IsInput) fun _ => rfl
        heldFilters := fun _ => forall_mapVec (Q := Channel.Quiet) fun _ => rfl
        record := rfl, shifting := rfl, sampled := nofun, recovery := rfl
        overrun := fun i => by simp [State.hardReset, State.reset, MeasureUnit.reset, LatchSlot.reset]
        everyArmed := fun i _ => by simp [State.hardReset, State.reset, DispatchUnit.reset, SubEntry.empty] }
  | tick =>
    have ticked := h.with_pos (PositionUnit.tick_legal h.reader)
    exact
      { ticked with
        channels := forall_mapVec fun c => Channel.tick_legal (h.channels c)
        heldInputs := fun held => forall_mapVec (Q := Channel.IsInput) (h.heldInputs held)
        heldFilters := fun held =>
          forall_mapVec (Q := Channel.Quiet) fun c => by
            have quiet := h.heldFilters held c
            simpa [Channel.Quiet, Channel.tick] using quiet }
  | _ => exact { h with }

end Kept

/-- Settles O59: every move of a step keeps the field side legal. -/
theorem fieldSideKept : Obligations.FieldSideKept := by
  unfold Obligations.FieldSideKept
  exact fun s t legal h => step_keeps move_keeps_fieldLegal h legal

end Sys2Proof.Machine
end

section
/-! PROOF of O56: what each move does to what the station state opens and closes. -/

namespace Sys2Proof.Machine

/-! ### What a legal life cycle says of a state -/

section Facts

variable {s : State} (h : s.LifeCycle)

include h

theorem State.LifeCycle.off_iff : s.line.rx = .off ↔ s.station.mode = .config := by
  have := h.receiverOff
  rw [← beq_iff_eq (a := s.line.rx), this, beq_iff_eq]

theorem State.LifeCycle.frame_iff : s.line.rxFrame.isSome = true ↔ s.line.rx = .receiving := by
  rw [h.receiving, beq_iff_eq]

theorem State.LifeCycle.clock_iff :
    s.line.txClock.isSome = true ↔ s.line.attempt ≠ .waitGap ∧ s.line.rx = .receiving := by
  rw [h.clock, Bool.and_eq_true, bne_iff_ne, beq_iff_eq]

theorem State.LifeCycle.no_frame (other : s.line.rx ≠ .receiving) : s.line.rxFrame = none := by
  have := mt h.frame_iff.mp other
  simpa using this

theorem State.LifeCycle.no_clock (other : s.line.attempt = .waitGap ∨ s.line.rx ≠ .receiving) :
    s.line.txClock = none := by
  have := mt h.clock_iff.mp fun ⟨trying, receiving⟩ => other.elim trying (· receiving)
  simpa using this

theorem State.LifeCycle.not_stuck (other : s.line.rx ≠ .seeking) : s.line.stuck = false := by
  simpa using mt h.stuck fun ⟨seeking, _⟩ => other seeking

theorem State.LifeCycle.running_iff : s.time.syncTimer.isSome = true ↔ s.isOpen = true := by
  rw [h.syncTimer]

theorem State.LifeCycle.timer_off (other : s.station.mode ≠ .listen) : s.station.listenTimer = none := by
  simpa [beq_false_of_ne other] using h.listenTimer

theorem State.LifeCycle.leave_off (other : s.station.mode ≠ .leaving) : s.station.leaveTimer = none := by
  simpa [beq_false_of_ne other] using h.leaveTimer

theorem State.LifeCycle.sync_off (closed : s.isOpen = false) : s.time.syncTimer = none := by
  simpa [closed] using h.syncTimer

end Facts

theorem isOpen_iff_mode (s : State) :
    s.isOpen = true ↔ s.station.mode = .active ∨ s.station.mode = .drifted := by
  simp [State.isOpen]

theorem closed_of_mode {s : State}
    (other : s.station.mode = .config ∨ s.station.mode = .listen ∨ s.station.mode = .leaving) :
    s.isOpen = false := by
  rcases other with is | is | is <;> simp [State.isOpen, is]

/-! ### The moves of the line engine -/

theorem attempting_of_errorDue {s : State} {sample : Nat} (due : s.errorDue sample = true) :
    s.line.attempt ≠ .waitGap := by
  intro idle
  simp [State.errorDue, idle] at due

theorem sentLevel_start {l : List Byte} (some_byte : l ≠ []) : sentLevel l 0 = some false := by
  cases l with
  | nil => exact absurd rfl some_byte
  | cons b l => rfl

theorem mem_markHead {q : List Notice} (waiting : (headNotice q).isSome = true) {n : Notice}
    (mem : n ∈ markHead q) : ∃ m ∈ q, n.isLeave = m.isLeave := by
  obtain ⟨pre, x, post, rfl, -, is⟩ := markHead_eq_set q waiting
  rw [is] at mem
  rcases List.mem_append.mp mem with mem | mem
  · exact ⟨n, by simp [mem], rfl⟩
  · rcases List.mem_cons.mp mem with rfl | mem
    · exact ⟨x, by simp, rfl⟩
    · exact ⟨n, by simp [mem], rfl⟩

theorem noticeBytes_ne_nil (s : State) (n : Notice) : s.noticeBytes n ≠ [] := by
  simp only [State.noticeBytes]
  split <;> simp [withCrc, syncBytes, eventBytes, leaveBytes]

section Line

variable {s : State} (h : s.LifeCycle)

include h

theorem lifeCycle_joinTx {n : Notice} (on : s.txOn = true)
    (leave : n.isLeave = true → s.station.mode = .leaving) : (s.joinTx n).LifeCycle :=
  { h with
    quiet := fun off => by
      have : s.txOn = false := off
      simp [on] at this
    leaveNotice := fun m mem is => by
      rcases mem_placeNotice.mp mem with rfl | mem
      · exact leave is
      · exact h.leaveNotice m mem is }

/-- Notices that are some of those there were, their bodies unchanged. -/
theorem lifeCycle_fewer {q : List Notice}
    (fewer : ∀ n ∈ q, ∃ m ∈ s.line.txq, n.isLeave = m.isLeave) (quiet : s.line.txq = [] → q = []) :
    (s.setLine { s.line with txq := q }).LifeCycle :=
  { h with
    quiet := fun off => ⟨quiet (h.quiet off).1, (h.quiet off).2⟩
    leaveNotice := fun n mem is => by
      obtain ⟨m, mem, same⟩ := fewer n mem
      exact h.leaveNotice m mem (same ▸ is) }

theorem lifeCycle_gap (on : s.line.rx ≠ .off)
    (due : s.line.rx ≠ .receiving ∨ s.line.attempt = .waitGap) :
    (s.setLine { s.line.gapReceiver with stuck := false }).LifeCycle := by
  have onLine := mt h.off_iff.mpr on
  have clockless := h.no_clock due.symm
  rw [gapReceiver_eq on]
  exact
    { h with
      receiverOff := by simp [onLine]
      receiving := by
        by_cases free : s.line.rx = .free
        · simp [free, h.no_frame (by simp [free])]
        · simp [free]
      stuckOff := fun _ => rfl
      attempting := fun trying => ⟨.inl rfl, (h.attempting trying).2⟩
      sending := fun sending => by
        rcases due with other | idle
        · exact absurd (h.sending sending) other
        · simp [idle] at sending
      stuck := nofun
      stuckSpan := nofun
      afterError := nofun
      clock := by simp [clockless] }

theorem lifeCycle_beginFrame (free : s.line.rx = .free) : s.beginFrame.LifeCycle := by
  have onLine : s.station.mode ≠ .config := mt h.off_iff.mpr (by simp [free])
  have clockless := h.no_clock (.inr (by simp [free]))
  have clear := h.not_stuck (by simp [free])
  exact
    { h with
      receiverOff := by simp [State.beginFrame, onLine]
      receiving := rfl
      attempting := fun trying => ⟨.inr rfl, (h.attempting trying).2⟩
      sending := fun _ => rfl
      stuck := fun stuck => by simp [State.beginFrame, clear] at stuck
      afterError := fun awaits => ⟨(h.afterError awaits).1, nofun⟩
      clock := by
        simp only [State.beginFrame, State.setLine_line, clockFromEdge_eq]
        split <;> simp [*]
      starting := fun trying still => by
        simp only [State.beginFrame, State.setLine_line, clockFromEdge_eq] at still trying
        simp [trying] at still
      driving := fun n b clock rate => by
        simp only [State.beginFrame, State.setLine_line, clockFromEdge_eq] at clock ⊢
        split at clock
        · cases clock
        · rename_i trying
          cases clock
          rw [h.starting trying clockless, Nat.zero_div, sentLevel_start (h.attempting trying).2]
          rfl }

theorem lifeCycle_stick (seeking : s.line.rx = .seeking) (idle : s.line.attempt = .waitGap) :
    (s.setLine
      { s.line with stuck := true, stuckTime := s.time.lineTime, stuckFor := 0 }).LifeCycle :=
  { h with
    stuckOff := fun config => by simp [h.off_iff.mpr config] at seeking
    stuck := fun _ => ⟨seeking, idle⟩
    stuckSpan := fun _ => by simp }

theorem lifeCycle_endFrame (receiving : s.line.rx = .receiving) (idle : s.line.attempt = .waitGap)
    (e : FrameEnding) : (s.setLine (s.line.endFrame e.next)).LifeCycle := by
  have onLine : s.station.mode ≠ .config := mt h.off_iff.mpr (by simp [receiving])
  have clockless := h.no_clock (.inl idle)
  have clear := h.not_stuck (by simp [receiving])
  exact
    { h with
      receiverOff := by cases e <;> simp [LineEngine.endFrame, FrameEnding.next, onLine]
      receiving := by cases e <;> rfl
      attempting := fun trying => absurd idle trying
      sending := fun sending => by simp [LineEngine.endFrame, idle] at sending
      stuck := fun stuck => by simp [LineEngine.endFrame, clear] at stuck
      afterError := fun _ => ⟨idle, by cases e <;> nofun⟩
      clock := by simp [LineEngine.endFrame, clockless, idle] }

theorem lifeCycle_attemptBegin (due : s.attemptDue = true) : s.attemptBegin.LifeCycle := by
  obtain ⟨on, idle, free, waits, waiting⟩ := (attemptDue_iff s).mp due
  have clockless := h.no_clock (.inl idle)
  have clear := h.not_stuck (by simp [free])
  obtain ⟨n, is⟩ := attemptBegin_eq waiting
  rw [is]
  exact
    { h with
      quiet := fun off => by
        have : s.txOn = false := off
        simp [on] at this
      attempting := fun _ => ⟨.inl free, noticeBytes_ne_nil s n⟩
      sending := nofun
      leaveNotice := fun m mem is => by
        obtain ⟨x, mem, same⟩ := mem_markHead waiting mem
        exact h.leaveNotice x mem (same ▸ is)
      stuck := fun stuck => by simp [clear] at stuck
      afterError := fun awaits => by simp [waits] at awaits
      clock := by simp [clockless, free]
      silent := nofun
      starting := fun _ _ => rfl
      driving := fun n b clock => by simp [clockless] at clock }

/-- An attempt ends, the receiver going on as it was; a bit error waits for a gap. -/
theorem lifeCycle_dropAttempt (bytes : Nat) {awaits : Bool}
    (waits : awaits = true → s.line.awaitGap = true ∨ s.line.attempt ≠ .waitGap) :
    (s.setLine { s.line.dropAttempt bytes with awaitGap := awaits }).LifeCycle :=
  { h with
    quiet := fun off => ⟨(h.quiet off).1, rfl⟩
    receiving := (Option.isSome_map ..).trans h.receiving
    attempting := fun trying => absurd rfl trying
    sending := nofun
    stuck := fun stuck => ⟨(h.stuck stuck).1, rfl⟩
    afterError := fun awaiting => ⟨rfl, fun off => by
      rcases waits awaiting with awaited | trying
      · exact (h.afterError awaited).2 off
      · have on := (h.attempting trying).1
        rw [show s.line.rx = .off from off] at on
        rcases on with on | on <;> cases on⟩
    clock := rfl
    silent := fun _ => rfl
    starting := fun trying => absurd rfl trying
    driving := nofun }

theorem lifeCycle_arbitrationLost (dataBit : Nat) : (s.arbitrationLost dataBit).LifeCycle := by
  have back := lifeCycle_fewer h (q := s.handBack s.line.txq)
    (fun n mem => by
      obtain ⟨m, kept, rfl⟩ := List.mem_map.mp mem
      exact ⟨m, List.mem_of_mem_filter kept, rfl⟩)
    fun empty => by simp [State.handBack, empty]
  exact lifeCycle_dropAttempt back (dataBit / 8) (awaits := s.line.awaitGap) .inl

theorem lifeCycle_arbitrationWon (due : s.winDue = true) : s.arbitrationWon.LifeCycle := by
  have arbitrating := winDue_arbitrating due
  simp only [State.winDue, Bool.and_eq_true, ownFrame_iff] at due
  obtain ⟨⟨-, receiving, -⟩, -⟩ := due
  have trying : s.line.attempt ≠ .waitGap := by simp [arbitrating]
  exact
    { h with
      quiet := fun off => absurd (h.quiet off).2 trying
      attempting := fun _ => h.attempting trying
      sending := fun _ => receiving
      stuck := fun stuck => absurd (h.stuck stuck).2 trying
      afterError := fun awaits => absurd (h.afterError awaits).1 trying
      clock := h.clock.trans (by rw [arbitrating]; rfl)
      silent := nofun
      starting := fun _ => h.starting trying }

theorem lifeCycle_bitError {sample : Nat} (due : s.errorDue sample = true) :
    (s.setLine
      { s.line.dropAttempt (sample / 10) with
        txq := s.countErrored s.line.txq, awaitGap := true }).LifeCycle := by
  have counted := lifeCycle_fewer h (q := s.countErrored s.line.txq)
    (fun n mem => by
      obtain ⟨m, kept, rfl⟩ := List.mem_map.mp mem
      exact ⟨m, List.mem_of_mem_filter kept, by split <;> rfl⟩)
    fun empty => by simp [State.countErrored, empty]
  exact lifeCycle_dropAttempt counted (sample / 10) fun _ => .inr (attempting_of_errorDue due)

theorem lifeCycle_complete (receiving : s.line.rx = .receiving) :
    (s.setLine s.line.completeAttempt).LifeCycle := by
  have onLine : s.station.mode ≠ .config := mt h.off_iff.mpr (by simp [receiving])
  have clear := h.not_stuck (by simp [receiving])
  exact
    { h with
      receiverOff := by simp [LineEngine.completeAttempt, LineEngine.endFrame, onLine]
      receiving := rfl
      quiet := fun off => by
        refine ⟨?_, rfl⟩
        simp [LineEngine.completeAttempt, removeTx, (h.quiet off).1]
      attempting := fun trying => absurd rfl trying
      sending := nofun
      leaveNotice := fun n mem => h.leaveNotice n (List.mem_of_mem_filter mem)
      stuck := fun stuck => by simp [LineEngine.completeAttempt, LineEngine.endFrame, clear] at stuck
      afterError := fun _ => ⟨rfl, nofun⟩
      clock := rfl
      silent := fun _ => rfl
      starting := fun trying => absurd rfl trying
      driving := nofun }

end Line

/-! ### The moves of the station and its clock -/

/-- The open station state is neither of those that a life cycle closes something in. -/
theorem not_closed_of_open {m : StationMode} (opens : m = .active ∨ m = .drifted) :
    m ≠ .config ∧ m ≠ .listen ∧ m ≠ .leaving := by
  rcases opens with rfl | rfl <;> decide

theorem LineEngine.joinStep_eq (l : LineEngine) (step : Int) :
    l.joinStep step =
      { l with
        stuckFor := if l.stuck then l.stuckFor + step else l.stuckFor
        rxFrame := l.rxFrame.map fun f => { f with rawStamp := f.rawStamp + BitVec.ofInt 48 step } } := by
  simp [LineEngine.joinStep, passTicks_eq]

section Station

variable {s : State} (h : s.LifeCycle)

include h

theorem lifeCycle_time {u : TimeUnit} (keeps : s.KeepsTime u) : (s.setTime u).LifeCycle :=
  { h with
    syncTimer := keeps.timer.trans h.syncTimer
    slewOff := fun closed => by
      rcases keeps.slew with same | running
      · exact same.trans (h.slewOff closed)
      · have : s.isOpen = false := closed
        simp [h.running_iff.mp running] at this
    stuckSpan := fun stuck => keeps.lineTime.trans (h.stuckSpan stuck) }

theorem lifeCycle_configure (config : s.station.mode = .config) (g : StationConfig) :
    (s.setStation { s.station with cfg := g }).LifeCycle := by
  have clockless := h.no_clock (.inr (by simp [h.off_iff.mpr config]))
  exact
    { h with
      onLine := fun onLine => absurd config onLine
      driving := fun n b clock => by simp [clockless] at clock }

theorem lifeCycle_listen (released : s.resetHeld = false) (config : s.station.mode = .config)
    (checked : s.joinCheck = none) :
    ((s.setLine s.line.startReceiver).setStation
      { s.station with mode := .listen, listenTimer := some s.station.cfg.listenTicks }).LifeCycle := by
  have off := h.off_iff.mpr config
  have closed := closed_of_mode (.inl config)
  obtain ⟨empty, idle⟩ := h.quiet (by simp [State.txOn, closed, config])
  exact
    { h with
      closedDispatch := fun _ => h.closedDispatch closed
      closedSchedule := fun _ => h.closedSchedule closed
      syncTimer := by simp [h.sync_off closed, State.isOpen]
      slewOff := fun _ => h.slewOff closed
      listenTimer := rfl
      leaveTimer := by simp [h.leave_off (by simp [config])]
      receiverOff := rfl
      receiving := by simp [LineEngine.startReceiver, h.no_frame (by simp [off])]
      stuckOff := nofun
      quiet := fun _ => ⟨empty, idle⟩
      attempting := fun trying => absurd idle trying
      sending := fun sending => by simp [LineEngine.startReceiver, idle] at sending
      leaveNotice := fun n mem => by simp [LineEngine.startReceiver, empty] at mem
      onLine := fun _ => joinable_of_check checked
      held := fun held => by simp [released] at held
      stuck := fun stuck => by simp [LineEngine.startReceiver, h.stuckOff config] at stuck
      afterError := fun _ => ⟨idle, nofun⟩
      clock := by simp [LineEngine.startReceiver, h.no_clock (.inl idle), idle] }

theorem lifeCycle_stepped (listening : s.station.mode = .listen) {c : JoinChoice} (period : Nat)
    (opens : c.mode = .active ∨ c.mode = .drifted) :
    (((s.setTime (s.time.joinStep c period)).setLine (s.line.joinStep c.step)).setStation
      { s.station with mode := c.mode, listenTimer := none }).LifeCycle := by
  have closed := closed_of_mode (.inr (.inl listening))
  obtain ⟨empty, idle⟩ := h.quiet (by simp [State.txOn, closed, listening])
  have opened : (s.setStation { s.station with mode := c.mode, listenTimer := none }).isOpen = true :=
    (isOpen_iff_mode _).mpr opens
  obtain ⟨onLine, heard, stays⟩ := not_closed_of_open opens
  rw [LineEngine.joinStep_eq]
  exact
    { h with
      closedDispatch := fun off => absurd (opened.symm.trans off) nofun
      closedSchedule := fun off => absurd (opened.symm.trans off) nofun
      syncTimer := opened.symm
      slewOff := fun _ => rfl
      listenTimer := by simp [beq_false_of_ne heard]
      leaveTimer := by simp [h.leave_off (by simp [listening]), beq_false_of_ne stays]
      receiverOff := by
        have on := mt h.off_iff.mp (by simp [listening])
        simp [beq_false_of_ne on, beq_false_of_ne onLine]
      receiving := (Option.isSome_map ..).trans h.receiving
      stuckOff := fun config => absurd config onLine
      quiet := fun _ => ⟨empty, idle⟩
      leaveNotice := fun n mem => by simp [empty] at mem
      onLine := fun _ => h.onLine (by simp [listening])
      held := fun held => by
        have := h.held held
        simp [listening] at this
      stuckSpan := fun stuck => by
        have stuck : s.line.stuck = true := stuck
        have span := h.stuckSpan stuck
        simp [TimeUnit.joinStep, stuck, span, BitVec.ofInt_add, BitVec.add_assoc] }

theorem lifeCycle_round {m : StationMode} (closed : s.isOpen = false → m = s.station.mode)
    (opened : s.isOpen = true → m = .active ∨ m = .drifted) :
    (s.setStation { s.station with mode := m }).LifeCycle := by
  cases was : s.isOpen with
  | false =>
    obtain rfl := closed was
    exact { h with }
  | true =>
    obtain ⟨wasOn, wasHeard, wasStaying⟩ := not_closed_of_open ((isOpen_iff_mode s).mp was)
    obtain ⟨onLine, heard, stays⟩ := not_closed_of_open (opened was)
    have opens : (s.setStation { s.station with mode := m }).isOpen = true :=
      (isOpen_iff_mode _).mpr (opened was)
    exact
      { h with
        closedDispatch := fun off => absurd (opens.symm.trans off) nofun
        closedSchedule := fun off => absurd (opens.symm.trans off) nofun
        syncTimer := h.syncTimer.trans (was.trans opens.symm)
        slewOff := fun off => absurd (opens.symm.trans off) nofun
        listenTimer := by simp [h.timer_off wasHeard, beq_false_of_ne heard]
        leaveTimer := by simp [h.leave_off wasStaying, beq_false_of_ne stays]
        receiverOff := by simp [beq_false_of_ne (mt h.off_iff.mp wasOn), beq_false_of_ne onLine]
        stuckOff := fun config => absurd config onLine
        quiet := fun off => by simp [State.txOn, opens] at off
        leaveNotice := fun n mem leave => absurd (h.leaveNotice n mem leave) wasStaying
        onLine := fun _ => h.onLine wasOn
        held := fun held => absurd (h.held held) wasOn }

theorem lifeCycle_leaving (taken : s.takesLeave = true)
    (dispatch : s.disp.queue = [] ∧ s.disp.current = none) (schedule : s.sched.entries = []) :
    ((s.setTime s.time.stopSync).setStation
      { s.station with
        mode := .leaving, listenTimer := none, leaveTimer := some s.station.cfg.leaveTicks }).LifeCycle := by
  have onLine : s.station.mode ≠ .config := fun config => by
    simp [State.takesLeave, State.isOpen, config] at taken
  have on := mt h.off_iff.mp onLine
  exact
    { h with
      closedDispatch := fun _ => dispatch
      closedSchedule := fun _ => schedule
      syncTimer := rfl
      slewOff := fun _ => rfl
      listenTimer := rfl
      leaveTimer := rfl
      receiverOff := by simp [beq_false_of_ne on]
      stuckOff := nofun
      quiet := nofun
      leaveNotice := fun _ _ _ => rfl
      onLine := fun _ => h.onLine onLine
      held := fun held => absurd (h.held held) onLine }

end Station

/-- CONFIG with the line engine off, the dispatcher and the schedule empty and the sync timer stopped. -/
theorem lifeCycle_configEntered {s : State} (dispatch : s.disp.queue = [] ∧ s.disp.current = none)
    (schedule : s.sched.entries = []) {u : TimeUnit} (timer : u.syncTimer = none) (slew : u.slew = 0) :
    (s.configEntered.setTime u).LifeCycle :=
  { closedDispatch := fun _ => dispatch
    closedSchedule := fun _ => schedule
    syncTimer := by simp [timer, State.configEntered, State.isOpen]
    slewOff := fun _ => slew
    listenTimer := rfl
    leaveTimer := rfl
    receiverOff := rfl
    receiving := rfl
    stuckOff := fun _ => rfl
    quiet := fun _ => ⟨rfl, rfl⟩
    attempting := fun trying => absurd rfl trying
    sending := nofun
    leaveNotice := nofun
    onLine := fun onLine => absurd rfl onLine
    held := fun _ => rfl
    stuck := nofun
    stuckSpan := nofun
    afterError := nofun
    clock := rfl
    silent := fun _ => rfl
    starting := fun trying => absurd rfl trying
    driving := nofun }

theorem lifeCycle_hardReset (s : State) (held : Bool) : (s.hardReset held).LifeCycle :=
  { closedDispatch := fun _ => ⟨rfl, rfl⟩
    closedSchedule := fun _ => rfl
    syncTimer := rfl
    slewOff := fun _ => rfl
    listenTimer := rfl
    leaveTimer := rfl
    receiverOff := rfl
    receiving := rfl
    stuckOff := fun _ => rfl
    quiet := fun _ => ⟨rfl, rfl⟩
    attempting := fun trying => absurd rfl trying
    sending := nofun
    leaveNotice := nofun
    onLine := fun onLine => absurd rfl onLine
    held := fun _ => rfl
    stuck := nofun
    stuckSpan := nofun
    afterError := nofun
    clock := rfl
    silent := fun _ => rfl
    starting := fun trying => absurd rfl trying
    driving := nofun }

/-! ### A tick (R67, R109, R119) -/

theorem LineEngine.drive_cases (l : LineEngine) (bitTicks : Option Nat) :
    (∃ n b, l.txClock = some n ∧ bitTicks = some b ∧
      l.drive bitTicks =
        { l with txClock := some (n + 1), txl := (sentLevel l.attemptBytes ((n + 1) / b)).getD true }) ∨
    (l.txClock = none ∨ bitTicks = none) ∧ l.drive bitTicks = l := by
  cases clock : l.txClock with
  | none => exact .inr ⟨.inl rfl, by simp [LineEngine.drive, clock]⟩
  | some n =>
    cases bitTicks with
    | none => exact .inr ⟨.inr rfl, by simp [LineEngine.drive, clock]⟩
    | some b => exact .inl ⟨n, b, rfl, rfl, by simp [LineEngine.drive, clock]⟩

theorem lifeCycle_drive {s : State} (h : s.LifeCycle) :
    (s.setLine (s.line.drive s.station.cfg.bitTicks)).LifeCycle := by
  obtain ⟨n, b, clock, rate, is⟩ | ⟨-, is⟩ := s.line.drive_cases s.station.cfg.bitTicks
  · obtain ⟨trying, -⟩ := h.clock_iff.mp (by simp [clock])
    rw [is]
    exact
      { h with
        clock := by simpa [clock] using h.clock
        silent := fun idle => absurd idle trying
        starting := nofun
        driving := fun k c after rate' => by
          cases after
          cases rate.symm.trans rate'
          rfl }
  · rw [is]
    exact { h with }

/-- Line time and the timers of a tick, before a bit is driven. -/
theorem lifeCycle_passed {s : State} (h : s.LifeCycle) :
    (s.tick.setLine (s.line.passTicks (s.time.advance s.station.cfg.period))).LifeCycle := by
  rw [passTicks_eq]
  exact
    { h with
      syncTimer := (countDown_isSome _).trans h.syncTimer
      listenTimer := (countDown_isSome _).trans h.listenTimer
      leaveTimer := (countDown_isSome _).trans h.leaveTimer
      stuckSpan := fun stuck => by
        have stuck : s.line.stuck = true := stuck
        simp [State.tick, TimeUnit.tick, stuck, h.stuckSpan stuck, BitVec.ofInt_add, BitVec.add_assoc] }

theorem lifeCycle_tick {s : State} (h : s.LifeCycle) : s.tick.LifeCycle :=
  lifeCycle_drive (lifeCycle_passed h)

/-! ### Every move keeps the life cycle -/

theorem move_keeps_lifeCycle (s t : State) (move : Move s t) (h : s.LifeCycle) : t.LifeCycle := by
  cases move with
  | arrive o opened room =>
    exact { h with closedDispatch := fun closed => absurd (opened.symm.trans closed) nofun }
  | handOver p o opened room => exact lifeCycle_joinTx h (by simp [State.txOn, opened]) nofun
  | sched u closed =>
    exact { h with closedSchedule := fun off => closed off (h.closedSchedule off) }
  | disp d keeps =>
    exact
      { h with
        closedDispatch := fun off => keeps.closed off (h.closedDispatch off).1 (h.closedDispatch off).2 }
  | time u keeps => exact lifeCycle_time h keeps
  | gap ticks on due =>
    simp only [State.gapDue, Bool.and_eq_true, Bool.or_eq_true, bne_iff_ne, noAttempt_iff] at due
    exact lifeCycle_gap h ((rxOn_iff s).mp on) due.2
  | beginFrame free => exact lifeCycle_beginFrame h free
  | stick ticks due =>
    simp only [State.stuckDue, Bool.and_eq_true, beq_iff_eq, noAttempt_iff] at due
    exact lifeCycle_stick h due.1.2 due.2
  | endFrame e due =>
    simp only [State.frameDue, Bool.and_eq_true, beq_iff_eq, noAttempt_iff] at due
    exact lifeCycle_endFrame h due.1 due.2 e
  | attemptBegin due => exact lifeCycle_attemptBegin h due
  | arbitrationLost dataBit due => exact lifeCycle_arbitrationLost h dataBit
  | arbitrationWon due => exact lifeCycle_arbitrationWon h due
  | bitError sample due => exact lifeCycle_bitError h due
  | complete due =>
    simp only [State.completeDue, Bool.and_eq_true, ownFrame_iff] at due
    exact lifeCycle_complete h due.1.2.1
  | withdraw =>
    exact lifeCycle_fewer h (fun n mem => ⟨n, List.mem_of_mem_filter mem, rfl⟩) fun empty => by
      simp [withdrawSync, empty]
  | placeSync round =>
    unfold State.placeSync
    split
    · exact h
    · exact lifeCycle_joinTx h (by simp [State.txOn, h.running_iff.mp round]) nofun
  | placeLeave due =>
    simp only [State.leavePlaceDue, Bool.and_eq_true, beq_iff_eq] at due
    exact lifeCycle_joinTx h (by simp [State.txOn, due.1]) fun _ => due.1
  | configure g config => exact lifeCycle_configure h config g
  | listen released config checked empty => exact lifeCycle_listen h released config checked
  | stepped c period due opens =>
    simp only [State.listenDue, Bool.and_eq_true, beq_iff_eq] at due
    exact lifeCycle_stepped h due.1 period opens
  | round m closed opened => exact lifeCycle_round h closed opened
  | leaving taken dispatch schedule => exact lifeCycle_leaving h taken dispatch schedule
  | config left =>
    have leaving : s.station.mode = .leaving := by
      rcases left with leaving | ⟨n, mem, leave⟩
      · exact leaving
      · exact h.leaveNotice n mem leave
    have closed := closed_of_mode (.inr (.inr leaving))
    exact lifeCycle_configEntered (h.closedDispatch closed) (h.closedSchedule closed) (h.sync_off closed)
      (h.slewOff closed)
  | restart dispatch schedule => exact lifeCycle_configEntered dispatch schedule rfl rfl
  | hardReset held => exact lifeCycle_hardReset s held
  | tick => exact lifeCycle_tick h
  | _ => exact { h with }

/-- Settles O56: every move of a step keeps the life cycle. -/
theorem lifeCycleKept : Obligations.LifeCycleKept := by
  unfold Obligations.LifeCycleKept
  exact fun s t legal h => step_keeps move_keeps_lifeCycle h legal

end Sys2Proof.Machine
end

section
/-! SUPPORT. The bounds of O55 other than the schedule's, and the peer time table: that every move keeps them. -/

namespace Sys2Proof.Machine

/-! ### The peer time table (R72 to R81) -/

section Peers

variable {s : State} (h : s.PeersLegal)

include h

theorem peersLegal_of_keeps {t : State} (keeps : s.KeepsPeers t.time.peers)
    (station : t.station.cfg = s.station.cfg)
    (onLine : t.station.mode ≠ .config → s.station.mode ≠ .config) : t.PeersLegal :=
  ⟨keeps.ascending h.ascending,
    fun on => by rw [station]; exact keeps.others (h.others (onLine on)), keeps.young h.young⟩

theorem peersLegal_of_same {t : State} (same : t.time.peers = s.time.peers)
    (station : t.station.cfg = s.station.cfg)
    (onLine : t.station.mode ≠ .config → s.station.mode ≠ .config) : t.PeersLegal :=
  peersLegal_of_keeps h (by rw [same]; exact keepsPeers_rfl s) station onLine

end Peers

theorem peersLegal_of_empty {s : State} (empty : s.time.peers = []) : s.PeersLegal :=
  ⟨by simp [empty], fun _ => by simp [empty], by simp [empty]⟩

theorem move_keeps_peersLegal (s t : State) (move : Move s t) (h : s.PeersLegal) : t.PeersLegal := by
  cases move with
  | time u keeps => exact peersLegal_of_keeps h keeps.peers rfl id
  | attemptBegin due => exact peersLegal_of_same h (by simp) (by simp) (by simp)
  | placeSync round => exact peersLegal_of_same h (by simp) (by simp) (by simp)
  | configure g config => exact ⟨h.ascending, fun on => absurd config on, h.young⟩
  | listen released config checked empty => exact peersLegal_of_empty empty
  | stepped c period due opens =>
    simp only [State.listenDue, Bool.and_eq_true, beq_iff_eq] at due
    refine peersLegal_of_keeps h ?_ rfl fun _ => by simp [due.1]
    exact keepsPeers_of_map (List.Sublist.refl _) (fun _ => rfl) fun _ _ => id
  | round m closed opened =>
    refine peersLegal_of_same h rfl rfl fun on config => on ?_
    exact (closed (closed_of_mode (.inl config))).trans config
  | leaving taken dispatch schedule =>
    refine peersLegal_of_same h rfl rfl fun _ config => ?_
    simp [State.takesLeave, State.isOpen, config] at taken
  | config left => exact peersLegal_of_same h rfl rfl fun on => absurd rfl on
  | restart dispatch schedule => exact peersLegal_of_empty rfl
  | hardReset held => exact peersLegal_of_empty rfl
  | _ => exact { h with }

/-! ### The places of the other collections (R11, R72, R121, R133, R141, R189) -/

/-- The bounds other than the schedule's. -/
structure State.WithinPlaces (s : State) : Prop where
  dispatch : s.disp.queue.length ≤ 8
  peers : s.time.peers.length ≤ 24
  shared : sharedCount s.line.txq ≤ 15
  sync : syncsIn s.line.txq ≤ 1
  reports : s.host.reports.length ≤ 32
  fifos : ∀ c : Fin 8, s.chans[c].fifo.length ≤ 16
  errors : s.line.rxErrors ≤ 65535

section Places

variable {s : State} (h : s.WithinPlaces)

theorem countP_fewer {p : Notice → Bool} {l q : List Notice} (some_of : l.Sublist q) {f : Notice → Notice}
    (body : ∀ n, p (f n) = p n) : (l.map f).countP p ≤ q.countP p := by
  rw [List.countP_map, show p ∘ f = p from funext body]
  exact some_of.countP_le

include h

/-- A queue whose notices are some of those there were, changed but for their bodies. -/
theorem withinPlaces_fewer {l : LineEngine} {q : List Notice} {f : Notice → Notice}
    (some_of : q.Sublist s.line.txq) (body : ∀ n, (f n).isSync = n.isSync) (queue : l.txq = q.map f)
    (errors : l.rxErrors = s.line.rxErrors) : (s.setLine l).WithinPlaces :=
  { h with
    shared := by
      have := h.shared
      have := countP_fewer (p := fun n => !n.isSync) some_of (f := f) (by simp [body])
      simp only [State.setLine_line, queue, sharedCount] at *
      omega
    sync := by
      have := h.sync
      have := countP_fewer (p := Notice.isSync) some_of body
      simp only [State.setLine_line, queue, syncsIn] at *
      omega
    errors := by rw [State.setLine_line, errors]; exact h.errors }

theorem withinPlaces_sublist {l : LineEngine} (some_of : l.txq.Sublist s.line.txq)
    (errors : l.rxErrors = s.line.rxErrors) : (s.setLine l).WithinPlaces :=
  withinPlaces_fewer h some_of (f := id) (fun _ => rfl) (by simp) errors

theorem withinPlaces_joinTx {n : Notice} (shared : n.isSync = false → sharedCount s.line.txq < 15)
    (sync : n.isSync = true → syncsIn s.line.txq = 0) : (s.joinTx n).WithinPlaces :=
  { h with
    shared := by
      have := h.shared
      have placed := sharedCount_placeNotice n s.line.txq
      change sharedCount (placeNotice n s.line.txq) ≤ 15
      cases is : n.isSync <;> simp [is] at placed shared <;> omega
    sync := by
      have := h.sync
      have placed : syncsIn (placeNotice n s.line.txq) = syncsIn s.line.txq + (if n.isSync then 1 else 0) :=
        syncsIn_placeNotice n s.line.txq
      change syncsIn (placeNotice n s.line.txq) ≤ 1
      cases is : n.isSync
      · simp only [is, Bool.false_eq_true, if_false] at placed
        omega
      · have := sync is
        simp only [is, if_true] at placed
        omega }

theorem withinPlaces_attemptBegin (due : s.attemptDue = true) : s.attemptBegin.WithinPlaces := by
  obtain ⟨-, -, -, -, waiting⟩ := (attemptDue_iff s).mp due
  obtain ⟨n, is⟩ := attemptBegin_eq waiting
  obtain ⟨pre, m, post, queue, clear, marked⟩ := markHead_eq_set _ waiting
  have count (p : Notice → Bool) (same : p { m with inTx := true } = p m) :
      (markHead s.line.txq).countP p = s.line.txq.countP p := by
    rw [marked, queue]
    simp [List.countP_cons, same]
  rw [is]
  exact
    { h with
      shared := (count (fun n => !n.isSync) rfl).trans_le h.shared
      sync := (count Notice.isSync rfl).trans_le h.sync }

end Places

theorem move_keeps_withinPlaces (s t : State) (move : Move s t) (h : s.WithinPlaces) : t.WithinPlaces := by
  cases move with
  | report time b => exact { h with reports := pushReport_length_le _ h.reports }
  | arrive o opened room => exact { h with dispatch := by simpa using room }
  | handOver p o opened room => exact withinPlaces_joinTx h (fun _ => room) nofun
  | host u reports live => exact { h with reports := by rw [State.setHost_host, reports]; exact h.reports }
  | captureHead =>
    refine { h with reports := ?_ }
    have := h.reports
    cases reports : s.host.reports <;> simp [State.captureHead, closeHead, reports] at this ⊢
    omega
  | removeHead =>
    refine { h with reports := ?_ }
    have := h.reports
    have same : s.host.readByte7.reports = s.host.reports := by
      unfold HostUnit.readByte7
      split <;> rfl
    simp only [State.removeHead, State.setHost_host]
    split
    · simp
      omega
    · rw [same]
      exact this
  | emptyReports => exact { h with reports := Nat.zero_le _ }
  | chans v keeps => exact { h with fifos := fun c => (keeps c).fifo (h.fifos c) }
  | pin c l held =>
    exact
      { h with
        fifos := forall_updVec (Q := fun ch : Channel => ch.fifo.length ≤ 16) h.fifos (h.fifos c) }
  | disp d keeps => exact { h with dispatch := keeps.queue.trans h.dispatch }
  | time u keeps => exact { h with peers := keeps.peers.length h.peers }
  | runs recessive dominant errors few =>
    exact { h with errors := few.elim id fun same => same.trans_le h.errors }
  | gap ticks on due =>
    have queue := (gapReceiver_queue s.line).1
    refine { h with shared := ?_, sync := ?_, errors := ?_ }
    · simpa [queue] using h.shared
    · simpa [queue] using h.sync
    · have := h.errors
      simp only [State.setLine_line, LineEngine.gapReceiver]
      split <;> simp [LineEngine.endFrame, LineEngine.countError] <;> omega
  | attemptBegin due => exact withinPlaces_attemptBegin h due
  | arbitrationLost dataBit due =>
    exact withinPlaces_fewer h List.filter_sublist (f := fun n => { n with inTx := false }) (fun _ => rfl)
      rfl rfl
  | bitError sample due =>
    refine withinPlaces_fewer h List.filter_sublist
      (f := fun n => if n.inTx then { n with inTx := false, errored := n.errored + 1 } else n)
      (fun n => ?_) rfl rfl
    split <;> rfl
  | complete due => exact withinPlaces_sublist h List.filter_sublist rfl
  | withdraw => exact withinPlaces_sublist h List.filter_sublist rfl
  | placeSync round =>
    unfold State.placeSync
    split
    · exact h
    · rename_i none_there
      exact withinPlaces_joinTx h nofun fun _ => by
        simpa [syncsIn, List.countP_eq_zero] using none_there
  | placeLeave due =>
    simp only [State.leavePlaceDue, Bool.and_eq_true, Bool.not_eq_true'] at due
    have none_shared : sharedCount s.line.txq = 0 := by
      rw [sharedCount, List.countP_eq_zero]
      intro n mem
      have := List.any_eq_false.mp due.2 n mem
      cases body : n.body <;> simp_all [Notice.isSync, Notice.isEvent, Notice.isLeave]
    exact withinPlaces_joinTx h (fun _ => by omega) nofun
  | listen released config checked empty => exact { h with errors := Nat.zero_le _ }
  | stepped c period due opens =>
    have queue := (passTicks_queue s.line c.step).1
    refine { h with peers := ?_, shared := ?_, sync := ?_, errors := ?_ }
    · simpa [TimeUnit.joinStep] using h.peers
    · simpa [LineEngine.joinStep_eq] using h.shared
    · simpa [LineEngine.joinStep_eq] using h.sync
    · simpa [LineEngine.joinStep_eq] using h.errors
  | config left =>
    exact { h with shared := Nat.zero_le _, sync := Nat.zero_le _ }
  | restart dispatch schedule =>
    exact { h with peers := Nat.zero_le _, shared := Nat.zero_le _, sync := Nat.zero_le _ }
  | hardReset held =>
    exact ⟨Nat.zero_le _, Nat.zero_le _, Nat.zero_le _, Nat.zero_le _, Nat.zero_le _,
      forall_mapVec (Q := fun ch : Channel => ch.fifo.length ≤ 16) fun _ => Nat.zero_le _, Nat.zero_le _⟩
  | tick =>
    have line : s.tick.line.txq = s.line.txq := (tick_queue ..).1
    have errors : s.tick.line.rxErrors = s.line.rxErrors := by
      simp only [State.tick, State.setLine_line, LineEngine.tick, LineEngine.drive, passTicks_eq]
      split <;> rfl
    exact
      { h with
        shared := by rw [line]; exact h.shared
        sync := by rw [line]; exact h.sync
        fifos := forall_mapVec (Q := fun ch : Channel => ch.fifo.length ≤ 16) h.fifos
        errors := by rw [errors]; exact h.errors }
  | _ => exact { h with }

end Sys2Proof.Machine
end

section
/-! PROOF of O1, O2, O3: what a step does with and without a waiting command. -/

namespace Sys2Proof.Machine

/-! ### How a command answers -/

theorem actIf_goesOn (due : Bool) (s : State) (f : State → State) : goesOn (actIf due s f) := ⟨_, rfl⟩

theorem act_goesOn (s : State) (f : State → State) : goesOn (act s f) := ⟨_, rfl⟩

theorem exec_goesOn (i : Instr) (s : State) : goesOn (exec i s) := by
  cases i with
  | hardwareReset e => cases e <;> exact ⟨_, rfl⟩
  | frameEnd | attemptComplete =>
    simp only [exec, execFrameEnd, execAttemptComplete]
    split
    · exact actIf_goesOn ..
    · exact ⟨_, rfl⟩
  | pinTransition pin =>
    simp only [exec, execPinTransition]
    split <;> exact ⟨_, rfl⟩
  | edgeCounted | readbackFault | holdOffExpiry =>
    simp only [exec, execEdgeCounted, execReadbackFault, execHoldOffExpiry]
    split
    · exact actIf_goesOn ..
    · exact ⟨_, rfl⟩
  | _ => exact ⟨_, rfl⟩

theorem step_of_empty {s : State} (empty : s.pending = []) : step s = idle s := by
  simp only [step, empty]

theorem step_goesOn (s : State) : goesOn (step s) := by
  unfold step
  split
  · unfold idle
    split
    · exact ⟨_, rfl⟩
    · split
      · exact exec_goesOn ..
      · exact ⟨_, rfl⟩
      · exact ⟨_, rfl⟩
  · exact exec_goesOn ..

/-- Settles O1: by the definition of a step. -/
theorem stepRunsFrontCommand : Obligations.StepRunsFrontCommand := by
  unfold Obligations.StepRunsFrontCommand
  intro s c q front
  simp only [step, front, State.setPending]

/-- Settles O3: every command answers a next state, and so does the part on its own. -/
theorem stepNeverStops : Obligations.StepNeverStops := by
  unfold Obligations.StepNeverStops
  exact step_goesOn

/-! ### The part on its own (log 2, log 3) -/

theorem options_ne_nil (s : State) : s.options ≠ [] := by
  unfold State.options
  split
  · simp
  · rename_i due
    simp [List.isEmpty_iff] at due
    simp [due]

theorem pick_mem_options (s : State) : s.pick ∈ s.options := by
  have inside : Config.freeChoice s.choices % s.options.length < s.options.length :=
    Nat.mod_lt _ (List.length_pos_iff.mpr (options_ne_nil s))
  unfold State.pick
  rw [List.getElem?_eq_getElem inside, Option.getD_some]
  exact List.getElem_mem inside

theorem mem_dueNow {s : State} {e : Happening} :
    e ∈ s.dueNow ↔ (∃ i ∈ s.dueEvents, e = .event i) ∨ (s.disp.underWay.isSome = true ∧ e = .taking) := by
  unfold State.dueNow
  cases s.disp.underWay <;> simp [eq_comm]

/-- What can happen next: something due, or a tick where nothing is; or the examination of the next entry. -/
theorem mem_options {s : State} {e : Happening} :
    e ∈ s.options ↔
      (e = .tick ∧ s.dueNow = []) ∨ e ∈ s.dueNow ∨ (s.scanDue = true ∧ e = .event .entryExamined) := by
  unfold State.options
  cases due : s.dueNow with
  | nil => cases s.scanDue <;> simp [whenDue]
  | cons e' due => cases s.scanDue <;> simp [whenDue, or_assoc]

theorem dueNow_eq_nil {s : State} : s.dueNow = [] ↔ s.dueEvents = [] ∧ s.disp.underWay = none := by
  unfold State.dueNow
  cases s.disp.underWay <;> simp

theorem idle_released {s : State} (released : s.resetHeld = false) :
    (∃ i, s.pick = .event i ∧ idle s = exec i (s.useChoices 1)) ∨
      (s.pick = .taking ∧ idle s = .next (s.useChoices 1).takeUnderWay) ∨
      (s.pick = .tick ∧ idle s = .next (s.useChoices 1).tick) := by
  simp only [idle, released]
  cases s.pick <;> simp

/-- Settles O2: the option picked is one of those there are. -/
theorem emptyQueueStep : Obligations.EmptyQueueStep := by
  unfold Obligations.EmptyQueueStep
  intro s empty
  rw [step_of_empty empty]
  refine ⟨fun held => by simp [idle, held], fun released => ?_⟩
  have picked := pick_mem_options s
  rw [mem_options, mem_dueNow, dueNow_eq_nil] at picked
  obtain ⟨i, pick, answer⟩ | ⟨pick, answer⟩ | ⟨pick, answer⟩ := idle_released released <;>
    rw [answer] <;> rw [pick] at picked
  · have event : (∃ c ∈ s.dueEvents, c = i) ∨ (s.scanDue = true ∧ i = .entryExamined) := by
      simpa [eq_comm (a := i)] using picked
    refine ⟨fun _ => ?_, fun none_due _ => ?_⟩
    · obtain ⟨c, mem, rfl⟩ | ⟨due, rfl⟩ := event
      · exact .inl ⟨c, mem, rfl⟩
      · exact .inr (.inr ⟨due, rfl⟩)
    · obtain ⟨c, mem, rfl⟩ | ⟨due, rfl⟩ := event
      · simp [none_due] at mem
      · exact .inr ⟨due, rfl⟩
  · have under_way : s.disp.underWay.isSome = true := by simpa using picked
    refine ⟨fun _ => .inr (.inl ⟨under_way, rfl⟩), fun _ none_under_way => ?_⟩
    simp [none_under_way] at under_way
  · have none_due : s.dueEvents = [] ∧ s.disp.underWay = none := by simpa using picked
    refine ⟨fun some_due => ?_, fun _ _ => .inl rfl⟩
    simp [none_due] at some_due

end Sys2Proof.Machine
end

section
/-! PROOF of O4, O5: how the slew is spread over a round, and what one tick of the local clock changes. -/

namespace Sys2Proof.Machine

/-! ### The slew's spread (R69) -/

theorem slewApplied_mono (size period n : Nat) : slewApplied size period n ≤ slewApplied size period (n + 1) :=
  Nat.div_le_div_right (Nat.mul_le_mul_right _ n.le_succ)

/-- The parts of the first `n` tick periods come to what has been applied by then. -/
theorem sum_slewStep (slew : Int) (period n : Nat) :
    ((List.range n).map fun e => slewStep slew period e).sum =
      slew.sign * (slewApplied slew.natAbs period n : Nat) := by
  induction n with
  | zero => simp [slewApplied]
  | succ n ih =>
    have mono := slewApplied_mono slew.natAbs period n
    rw [List.range_succ, List.map_append, List.sum_append, ih]
    simp only [List.map_cons, List.map_nil, List.sum_cons, List.sum_nil, add_zero, slewStep]
    rw [← mul_add]
    congr 1
    omega

theorem slewApplied_succ_le {size period : Nat} (positive : 0 < period) (small : size ≤ period) (n : Nat) :
    slewApplied size period (n + 1) ≤ slewApplied size period n + 1 := by
  calc (n + 1) * size / period ≤ (n * size + period) / period :=
        Nat.div_le_div_right (by rw [Nat.succ_mul]; omega)
    _ = n * size / period + 1 := Nat.add_div_right _ positive

/-- Settles O4: the sum telescopes, and one more tick period adds at most `period` to the numerator. -/
theorem slewSpreadOverRound : Obligations.SlewSpreadOverRound := by
  unfold Obligations.SlewSpreadOverRound
  intro slew period positive
  refine ⟨fun n => sum_slewStep slew period n, ?_, fun small e => ?_⟩
  · rw [sum_slewStep, slewApplied, Nat.mul_div_cancel_left _ positive, Int.sign_mul_natAbs]
  · have step := slewApplied_succ_le positive small e
    have sign : slew.sign.natAbs ≤ 1 := by
      rw [Int.natAbs_sign]
      split <;> omega
    calc (slewStep slew period e).natAbs
        = slew.sign.natAbs *
          (slewApplied slew.natAbs period (e + 1) - slewApplied slew.natAbs period e) := by
          rw [slewStep, Int.natAbs_mul, Int.natAbs_natCast]
      _ ≤ 1 * 1 := Nat.mul_le_mul sign (by omega)

/-! ### One tick of the local clock -/

theorem TimeUnit.advance_of_stopped {u : TimeUnit} (stopped : u.syncTimer = none) (period : Nat) :
    u.advance period = 1 := by
  simp [TimeUnit.advance, stopped]

theorem TimeUnit.advance_of_running {u : TimeUnit} {left : Nat} (running : u.syncTimer = some left)
    (period : Nat) : u.advance period = 1 + slewStep u.slew period (period - left) := by
  simp [TimeUnit.advance, running]

theorem TimeUnit.advance_of_no_slew {u : TimeUnit} (none : u.slew = 0) (period : Nat) :
    u.advance period = 1 := by
  unfold TimeUnit.advance
  split <;> simp [slewStep, none]

theorem LineEngine.tick_of_silent {l : LineEngine} {b : Option Nat} (silent : l.txClock = none ∨ b = none)
    (n : Int) : l.tick n b = l.passTicks n := by
  have clock : (l.passTicks n).txClock = l.txClock := by simp [passTicks_eq]
  unfold LineEngine.tick LineEngine.drive
  rw [clock]
  rcases silent with silent | silent <;> simp [silent]

theorem LineEngine.tick_of_driven {l : LineEngine} {n b : Nat} (clock : l.txClock = some n) (ticks : Int) :
    l.tick ticks (some b) =
      { l.passTicks ticks with
        txClock := some (n + 1), txl := (sentLevel l.attemptBytes ((n + 1) / b)).getD true } := by
  simp [LineEngine.tick, LineEngine.drive, passTicks_eq, clock]

/-- Settles O5: field by field; only the shift word and the driven level need a case. -/
theorem tickCounts : Obligations.TickCounts := by
  unfold Obligations.TickCounts
  refine ⟨fun s => ?_, fun g => ?_⟩
  · refine ⟨rfl, fun stopped => TimeUnit.advance_of_stopped stopped _,
      fun none => TimeUnit.advance_of_no_slew none _, fun left running => TimeUnit.advance_of_running running _,
      rfl, rfl, fun r left shifting record at_ => ?_, fun ended => sampled_of_ended ended, fun c => ?_,
      ⟨fun silent => ?_, fun n b clock bits => ?_⟩, rfl, rfl, rfl, rfl, rfl, rfl, rfl⟩
    · change s.pos.sampled = _
      rw [sampled_of_left shifting record at_]
      simp only [EncConfig.rises, EncConfig.shiftTicks, EncConfig.samples, beq_iff_eq]
      rfl
    · exact getElem_mapVec ..
    · exact (LineEngine.tick_of_silent silent _).trans (passTicks_eq ..)
    · change s.line.tick _ s.station.cfg.bitTicks = _
      rw [bits, LineEngine.tick_of_driven clock, passTicks_eq]
      rfl
  · refine ⟨?_, ?_, ?_, ?_, ?_, ?_⟩ <;> intro code <;>
      simp [StationConfig.period, StationConfig.baseTicks, StationConfig.bitTicks, code]

end Sys2Proof.Machine
end

section
/-! PROOF of O6, O7, O8, O60: the reset state and its invariants, and what RESETN does. -/

namespace Sys2Proof.Machine

/-- Settles O6: the reset state is closed, and evaluates to these values. -/
theorem resetState : Obligations.ResetState := by
  unfold Obligations.ResetState
  repeat' apply And.intro
  all_goals decide +kernel

/-- Settles O7: on either edge the next state is the reset state but for the pins. -/
theorem hardwareResetTaken : Obligations.HardwareResetTaken := by
  unfold Obligations.HardwareResetTaken
  intro s e
  have pins (held : Bool) (c : Fin 8) :
      (s.hardReset held).chans[c] =
        { State.reset.chans[c] with sensed := s.chans[c].sensed, filtered := s.chans[c].sensed } := by
    have same : State.reset.chans[c] = Channel.reset State.reset.chans[c].sensed := by revert c; decide +kernel
    rw [same]
    exact getElem_mapVec ..
  cases e with
  | assert => exact ⟨_, rfl, rfl, rfl, rfl, rfl, rfl, rfl, rfl, rfl, pins true, rfl, rfl, rfl⟩
  | release => exact ⟨_, rfl, rfl, rfl, rfl, rfl, rfl, rfl, rfl, rfl, pins false, rfl, rfl, rfl⟩

/-! ### Held at reset (R106) -/

theorem actIf_held {s : State} (due : Bool) (f : State → State) (held : s.resetHeld = true) :
    actIf due s f = .next s := by
  simp [actIf, held]

/-- While RESETN is asserted, a command acts if it is HARDWARE_RESET or a pin's transition. -/
theorem exec_held {s : State} {c : Instr} (held : s.resetHeld = true) (reset : ∀ e, c ≠ .hardwareReset e)
    (pin : ∀ n l, c ≠ .pinTransition n l) : exec c s = .next s := by
  cases c with
  | hardwareReset e => exact absurd rfl (reset e)
  | pinTransition n l => exact absurd rfl (pin n l)
  | frameEnd | attemptComplete =>
    simp only [exec, execFrameEnd, execAttemptComplete]
    split
    · exact actIf_held _ _ held
    · rfl
  | edgeCounted | readbackFault | holdOffExpiry =>
    simp only [exec, execEdgeCounted, execReadbackFault, execHoldOffExpiry]
    split
    · exact actIf_held _ _ held
    · rfl
  | join | leave | restart | rearmSub | rearmCmp | restore | inject | store | tableIndex | registerWrite |
      transactionEnd =>
    simp only [exec, execJoin, execLeave, execRestart, execRearmSub, execRearmCmp, execRestore, execInject,
      execStore, execTableIndex, execRegisterWrite, execTransactionEnd]
    exact act_held _ held
  | tableData | gap | startEdge | lineStuck | arbitrationLost | bitError =>
    simp only [exec, execTableData, execGap, execStartEdge, execLineStuck, execArbitrationLost, execBitError]
    exact actIf_held _ _ held
  | _ => exact actIf_held _ _ held

/-- Settles O8: nothing but HARDWARE_RESET and the level of a pin gets through to a held state. -/
theorem heldInReset : Obligations.HeldInReset := by
  unfold Obligations.HeldInReset
  intro s held
  refine ⟨fun c => exec_held held, fun c l => ?_, fun l => rfl, by simp [State.eclk, held],
    by simp [State.intnAsserted, held]⟩
  simp only [exec, execPinTransition, ixOf_val, if_pos held]
  rfl

/-! ### The invariants of the reset state -/

theorem reset_sub_capture (i : Fin 64) : State.reset.disp.subs[i].action = .capture := by
  revert i
  decide +kernel

theorem reset_scheduleLegal : State.reset.ScheduleLegal where
  byDue := List.Pairwise.nil
  byStamp := List.Pairwise.nil
  stamped := by simp [show State.reset.sched.entries = [] from rfl]
  remaining := by simp [show State.reset.sched.entries = [] from rfl]
  drives i p drive := by cases (reset_sub_capture i).symm.trans drive
  underWay _ _ under_way := nomatch under_way

theorem reset_scheduleNear : State.reset.ScheduleNear := by
  constructor <;> simp [show State.reset.sched.entries = [] from rfl]

theorem reset_fieldLegal : State.reset.FieldLegal := by
  constructor
  case channels => intro c; constructor <;> revert c <;> decide +kernel
  case sampled => exact fun r left shifting => nomatch shifting
  all_goals decide +kernel

theorem reset_lifeCycle : State.reset.LifeCycle := by
  constructor
  case starting => exact fun busy => absurd rfl busy
  case driving => exact fun n b clock => nomatch clock
  all_goals decide +kernel

/-- Settles O60: the reset state is closed, and each clause evaluates. -/
theorem resetHasInvariants : Obligations.ResetHasInvariants := by
  unfold Obligations.ResetHasInvariants
  refine ⟨?_, reset_lifeCycle, ?_, ?_, reset_fieldLegal, ?_, reset_scheduleLegal, reset_scheduleNear⟩ <;>
    constructor <;> decide +kernel

end Sys2Proof.Machine
end

section
/-! PROOF of O10, O11, O14, O15: the commands of the command register, refused, with a bad parameter, and taken. -/

namespace Sys2Proof.Machine

/-! ### A command is a write of the command register (R184) -/

/-- The host port once a command of this value has left this status. -/
abbrev HostUnit.commandStatus (h : HostUnit) (value : Byte) (outcome : CmdOutcome) (detail : Byte) : HostUnit :=
  { h.writing 0x28#7 with status := { source := value, outcome := outcome, detail := detail } }

section Commands

variable {s : State} (released : s.resetHeld = false)

theorem record_hostWrite (value : Byte) (outcome : CmdOutcome) (detail : Byte) :
    (s.hostWrite 0x28#7).record value outcome detail =
      { s with host := s.host.commandStatus value outcome detail } := rfl

theorem refuse_hostWrite (value : Byte) :
    (s.hostWrite 0x28#7).refuse value =
      { s with host := s.host.commandStatus value .refused s.station.mode.code } := rfl

include released

theorem exec_leave : exec .leave s = .next (s.hostWrite 0x28#7).leave :=
  act_released (fun s => (s.hostWrite 0x28#7).leave) released

theorem exec_rearmSub : exec .rearmSub s = .next (s.hostWrite 0x28#7).rearmSub :=
  act_released (fun s => (s.hostWrite 0x28#7).rearmSub) released

theorem exec_rearmCmp : exec .rearmCmp s = .next (s.hostWrite 0x28#7).rearmCmp :=
  act_released (fun s => (s.hostWrite 0x28#7).rearmCmp) released

theorem exec_restore : exec .restore s = .next (s.hostWrite 0x28#7).restore :=
  act_released (fun s => (s.hostWrite 0x28#7).restore) released

theorem exec_inject : exec .inject s = .next (s.hostWrite 0x28#7).inject :=
  act_released (fun s => (s.hostWrite 0x28#7).inject) released

end Commands

/-! ### The checks of JOIN (R95) -/

section JoinChecks

variable {g : StationConfig}

theorem StationConfig.stationOk_iff : g.stationOk = true ↔ g.station.toNat ≤ 63 := decide_eq_true_iff

theorem StationConfig.syncOk_iff :
    g.syncOk = true ↔ g.syncBase.toNat ≤ 2 ∧ 1 ≤ g.syncMult.toNat ∧ g.syncMult.toNat ≤ 63 := by
  simp [StationConfig.syncOk, and_assoc]

theorem StationConfig.limitsOk_iff :
    g.limitsOk = true ↔
      1 ≤ g.limitL.toNat ∧ 1 ≤ g.limitS.toNat ∧ g.limitS.toNat ≤ 4095 ∧ g.limitS.toNat ≤ g.limitL.toNat := by
  simp [StationConfig.limitsOk, and_assoc]

theorem StationConfig.rateOk_iff : g.rateOk = true ↔ g.lineRate.toNat ≤ 2 := by
  refine ⟨fun named => ?_, StationConfig.rateOk_of_le⟩
  unfold StationConfig.rateOk StationConfig.bitTicks at named
  split at named
  · simp [*]
  · split at named
    · simp [*]
    · split at named
      · simp [*]
      · cases named

end JoinChecks

theorem exec_join_of_failed {s : State} {e : ConfigError} (released : s.resetHeld = false)
    (config : s.station.mode = .config) (failed : s.joinCheck = some e) :
    exec .join s =
      .next { s with host := { s.host.commandStatus 1 .checkFailed e.code with errorCode := e } } := by
  have writable : (s.hostWrite 0x28#7).inConfig = true := by simp [State.inConfig, config]
  have check : (s.hostWrite 0x28#7).joinCheck = some e := failed
  rw [exec_join released, State.join, writable, check]
  rfl

/-- Settles O10: the checks are made in the manual's order, and each is one of the conditions. -/
theorem joinCheckFails : Obligations.JoinCheckFails := by
  unfold Obligations.JoinCheckFails
  intro s released config
  simp only [← StationConfig.stationOk_iff, ← StationConfig.syncOk_iff, ← StationConfig.limitsOk_iff,
    ← StationConfig.rateOk_iff, ← positionOk_iff]
  have failed {e : ConfigError} := exec_join_of_failed (e := e) released config
  exact ⟨fun station => failed (by simp [State.joinCheck, station]),
    fun station sync => failed (by simp [State.joinCheck, station, sync]),
    fun station sync limits => failed (by simp [State.joinCheck, station, sync, limits]),
    fun station sync limits rate => failed (by simp [State.joinCheck, station, sync, limits, rate]),
    fun station sync limits rate position =>
      failed (by simp [State.joinCheck, station, sync, limits, rate, position])⟩

/-! ### Refusals and bad parameters (R184, R185) -/

section Refused

variable {s : State} (closed : s.isOpen = false)

include closed

theorem rearmSub_of_closed : s.rearmSub = s.refuse 4 := by simp [State.rearmSub, closed]

theorem rearmCmp_of_closed : s.rearmCmp = s.refuse 5 := by simp [State.rearmCmp, closed]

theorem inject_of_closed : s.inject = s.refuse 7 := by simp [State.inject, closed]

end Refused

theorem injectOk_iff (s : State) :
    s.injectOk = true ↔
      1 ≤ (injectEvent s).toNat ∧ (injectEvent s).toNat ≤ 4095 ∧
        (injectScope s = .here ∨ injectPriority s ≠ 0) := by
  simp [State.injectOk, and_assoc]

/-- A value of 1 to 7 names a command, and no other does. -/
theorem command_of_no_name {s : State} {value : Byte} (unnamed : value = 0 ∨ 7 < value.toNat) :
    s.command value = s.record value .badParameter 0 := by
  have named (n : Byte) (low : 1 ≤ n.toNat) (high : n.toNat ≤ 7) : value ≠ n := by
    rintro rfl
    rcases unnamed with rfl | above
    · exact absurd low (by decide)
    · omega
  simp only [State.command]
  rw [if_neg (named 1 (by decide) (by decide)), if_neg (named 2 (by decide) (by decide)),
    if_neg (named 3 (by decide) (by decide)), if_neg (named 4 (by decide) (by decide)),
    if_neg (named 5 (by decide) (by decide)), if_neg (named 6 (by decide) (by decide)),
    if_neg (named 7 (by decide) (by decide))]

theorem portByte_command (s : State) (value : Byte) :
    s.portByte 0x28 (some value) = (s.hostWrite 0x28#7).command value := rfl

/-- Settles O11: each command asks first for its station state, and then for its parameters. -/
theorem commandsRefused : Obligations.CommandsRefused := by
  unfold Obligations.CommandsRefused
  refine ⟨fun s released => ⟨fun outside => ?join, fun outside => ?leave, fun closed => ?closed⟩,
    fun s released => ⟨fun opened above => ?sub, fun opened above => ?cmp, fun above => ?restore,
      fun opened bad => ?inject, fun value unnamed => ?command⟩, rfl⟩
  case join =>
    refine (exec_join released).trans ?_
    rw [State.join, if_pos (by simpa [State.inConfig] using outside)]
    rfl
  case leave =>
    have not_taken : (s.hostWrite 0x28#7).takesLeave = false := by
      rcases outside with mode | mode <;> simp [State.takesLeave, State.isOpen, mode]
    refine (exec_leave released).trans ?_
    rw [State.leave, not_taken]
    rfl
  case closed =>
    have closed : (s.hostWrite 0x28#7).isOpen = false := by simp [State.isOpen, closed]
    exact ⟨(exec_rearmSub released).trans (congrArg _ (rearmSub_of_closed closed)),
      (exec_rearmCmp released).trans (congrArg _ (rearmCmp_of_closed closed)),
      (exec_inject released).trans (congrArg _ (inject_of_closed closed))⟩
  case sub =>
    have none : ixOf 64 (paramByte (s.hostWrite 0x28#7) 0).toNat = none := ixOf_none above
    have opened : (s.hostWrite 0x28#7).isOpen = true := opened
    rw [exec_rearmSub released, State.rearmSub, opened, none]
    rfl
  case cmp =>
    have none : ixOf 2 (paramByte (s.hostWrite 0x28#7) 0).toNat = none := ixOf_none above
    have opened : (s.hostWrite 0x28#7).isOpen = true := opened
    rw [exec_rearmCmp released, State.rearmCmp, opened, none]
    rfl
  case restore =>
    have none : ixOf 8 (paramByte (s.hostWrite 0x28#7) 0).toNat = none := ixOf_none above
    rw [exec_restore released, State.restore, none]
    rfl
  case inject =>
    have opened : (s.hostWrite 0x28#7).isOpen = true := opened
    have bad : (s.hostWrite 0x28#7).injectOk = false := by
      rw [Bool.eq_false_iff, ne_eq, injectOk_iff]
      rintro ⟨low, high, scope⟩
      change 1 ≤ (injectEvent s).toNat at low
      change (injectEvent s).toNat ≤ 4095 at high
      change injectScope s = .here ∨ injectPriority s ≠ 0 at scope
      rcases bad with zero | above | ⟨line, first⟩
      · simp [zero] at low
      · omega
      · simp [line, first] at scope
    rw [exec_inject released, State.inject, opened, bad]
    rfl
  case command =>
    refine (act_released (fun s => s.portByte 0x28 (some value)) released).trans ?_
    rw [portByte_command, command_of_no_name unnamed]
    rfl

/-! ### REARM_SUB, REARM_CMP and RESTORE taken (R30, R149, R174) -/

theorem Channel.enable_eq (c : Channel) :
    c.enable =
      { c with
        out := some .enabled, holdOff := none
        mismatch := if c.sensed = c.lastCmd then none else some (100 * c.cfg.checkDelay.toNat) } := by
  have ticks_eq : c.cfg.checkTicks = 100 * c.cfg.checkDelay.toNat := Nat.mul_comm _ _
  simp only [Channel.enable, Channel.recheck, Channel.driven, beq_self_eq_true, if_true, Option.getD_none, ticks_eq]
  split <;> rfl

/-- Settles O14: a parameter in range names one entry, comparator or channel, and the output state of the channel
says what RESTORE does. -/
theorem rearmAndRestoreTaken : Obligations.RearmAndRestoreTaken := by
  unfold Obligations.RearmAndRestoreTaken
  intro s released
  refine ⟨fun opened i names => ?sub, fun opened k names => ?cmp, fun c names => ?restore⟩
  case sub =>
    have named : ixOf 64 (paramByte (s.hostWrite 0x28#7) 0).toNat = some i :=
      (congrArg (ixOf 64) names).trans (ixOf_val i)
    have opened : (s.hostWrite 0x28#7).isOpen = true := opened
    rw [exec_rearmSub released, State.rearmSub, opened, named]
    rfl
  case cmp =>
    have named : ixOf 2 (paramByte (s.hostWrite 0x28#7) 0).toNat = some k :=
      (congrArg (ixOf 2) names).trans (ixOf_val k)
    have opened : (s.hostWrite 0x28#7).isOpen = true := opened
    rw [exec_rearmCmp released, State.rearmCmp, opened, named]
    rfl
  case restore =>
    have named : ixOf 8 (paramByte (s.hostWrite 0x28#7) 0).toNat = some c :=
      (congrArg (ixOf 8) names).trans (ixOf_val c)
    have refused {o : Option OutState} {d : Byte} (state : s.chans[c].out = o)
        (detail : restoreDetail o = some d) :
        exec .restore s = .next { s with host := s.host.commandStatus 6 .refused d } := by
      have detail : restoreDetail (s.hostWrite 0x28#7).chans[c.val].out = some d :=
        (congrArg restoreDetail state).trans detail
      rw [exec_restore released, State.restore, named]
      simp only [detail]
      rfl
    refine ⟨fun disabled => ?_, fun state => refused state rfl, fun state => refused state rfl,
      fun state => refused state rfl⟩
    have none : restoreDetail (s.hostWrite 0x28#7).chans[c.val].out = none := congrArg restoreDetail disabled
    have enabled := funext Channel.enable_eq
    rw [exec_restore released, State.restore, named]
    simp only [none, enabled]
    rfl

/-! ### INJECT taken (R10) -/

section HandOver

variable {s : State} (opened : s.isOpen = true) (p : Priority) (o : Occurrence)

include opened

theorem handOver_of_room (room : sharedCount s.line.txq < 15) :
    s.handOver p o = s.joinTx { body := .event o, priority := p, errored := 0, inTx := false } := by
  have places : sharedCount s.line.txq < Config.sharedPlaces := room
  simp [State.handOver, opened, places]

theorem handOver_of_full (full : 15 ≤ sharedCount s.line.txq) :
    s.handOver p o = s.report (.eventLost o.event .queueFull) := by
  have places : ¬sharedCount s.line.txq < Config.sharedPlaces := Nat.not_lt.mpr full
  simp [State.handOver, opened, places]

end HandOver

theorem exec_inject_of_ok {s : State} (released : s.resetHeld = false) (opened : s.isOpen = true)
    (ok : s.injectOk = true) :
    exec .inject s =
      .next
        (((s.hostWrite 0x28#7).raise (injectScope s) (injectPriority s) s.injected).taken 7) := by
  have opened : (s.hostWrite 0x28#7).isOpen = true := opened
  have ok : (s.hostWrite 0x28#7).injectOk = true := ok
  rw [exec_inject released, State.inject, opened, ok]
  rfl

/-- Settles O15: the scope sends the occurrence to one of the two queues, which has room for it or reports it. -/
theorem injectTaken : Obligations.InjectTaken := by
  unfold Obligations.InjectTaken
  intro s released opened low high
  have open' : (s.hostWrite 0x28#7).isOpen = true := opened
  refine ⟨fun here => ?here, fun line urgent => ?line⟩
  case here =>
    have taken := exec_inject_of_ok released opened ((injectOk_iff s).mpr ⟨low, high, .inl here⟩)
    rw [here] at taken
    refine ⟨fun room => ?_, fun full => ?_⟩ <;> rw [taken, State.raise]
    · rw [arrive_of_room open' room]
      rfl
    · rw [arrive_of_full open' full]
      rfl
  case line =>
    have taken := exec_inject_of_ok released opened ((injectOk_iff s).mpr ⟨low, high, .inr urgent⟩)
    rw [line] at taken
    refine ⟨fun room => ?_, fun full => ?_⟩ <;> rw [taken, State.raise]
    · rw [handOver_of_room open' _ _ room]
      rfl
    · rw [handOver_of_full open' _ _ full]
      rfl

end Sys2Proof.Machine
end

section
/-! PROOF of O17, O18, O19: a STORE of a channel's and of the position configuration, the refused STORE, and a write
to the table data. -/

namespace Sys2Proof.Machine

/-! ### What the codes of the position configuration name (R153, R196) -/

section PosCodes

variable (b : Byte)

theorem stPosMode_eq :
    stPosMode b =
      if b.toNat ≤ 3 then
        some (if b = 0 then .off else if b = 1 then .edge else if b = 2 then .quadrature else .updown)
      else none := by
  by_cases named : b.toNat ≤ 3
  · obtain rfl | rfl | rfl | rfl := code_le_three named <;> rfl
  · rw [if_neg named, stPosMode, if_neg (ne_of_above_code 0 named (by decide)),
      if_neg (ne_of_above_code 1 named (by decide)), if_neg (ne_of_above_code 2 named (by decide)),
      if_neg (ne_of_above_code 3 named (by decide))]

theorem stClock_eq :
    stClock b =
      if b.toNat ≤ 3 then
        some (if b = 0 then .mhz1 else if b = 1 then .khz500 else if b = 2 then .khz250 else .khz125)
      else none := by
  by_cases named : b.toNat ≤ 3
  · obtain rfl | rfl | rfl | rfl := code_le_three named <;> rfl
  · rw [if_neg named, stClock, if_neg (ne_of_above_code 0 named (by decide)),
      if_neg (ne_of_above_code 1 named (by decide)), if_neg (ne_of_above_code 2 named (by decide)),
      if_neg (ne_of_above_code 3 named (by decide))]

theorem stCoding_eq :
    stCoding b = if b.toNat ≤ 1 then some (if b = 0 then .binary else .gray) else none := by
  by_cases named : b.toNat ≤ 1
  · obtain rfl | rfl := code_le_one named <;> rfl
  · rw [if_neg named, stCoding, if_neg (ne_of_above_code 0 named (by decide)),
      if_neg (ne_of_above_code 1 named (by decide))]

theorem stEncCheck_eq :
    stEncCheck b =
      if b.toNat ≤ 2 then some (if b = 0 then .none else if b = 1 then .high else .low) else none := by
  by_cases named : b.toNat ≤ 2
  · obtain rfl | rfl | rfl := code_le_two named <;> rfl
  · rw [if_neg named, stEncCheck, if_neg (ne_of_above_code 0 named (by decide)),
      if_neg (ne_of_above_code 1 named (by decide)), if_neg (ne_of_above_code 2 named (by decide))]

theorem stSign_eq :
    stSign b =
      if b = 0xFF ∨ b = 0 ∨ b = 1 then
        some (if b = 0xFF then .minus else if b = 0 then .zero else .plus)
      else none := by
  by_cases named : b = 0xFF ∨ b = 0 ∨ b = 1
  · obtain rfl | rfl | rfl := named <;> rfl
  · rw [if_neg named]
    simp only [not_or] at named
    obtain ⟨minus, zero, plus⟩ := named
    rw [stSign, if_neg minus, if_neg zero, if_neg plus]

end PosCodes

/-! ### The checks of the two tables (R137, R153) -/

section Checks

variable (v : Vector Byte 48)

/-- The channel configuration that the staging area spells. -/
def stagedChan : ChanConfig :=
  { direction := if (stByte v 0).getLsbD 0 then .output else .input, filterMicros := stByte v 1
    rest := (stByte v 2).getLsbD 0, checkDelay := stByte v 3, holdOffMillis := stByte v 4
    autoRestore := (stByte v 5).getLsbD 0 }

theorem checkChan_eq :
    checkChan v =
      if (stByte v 1).toNat ≤ 63 ∧ stByte v 3 ≠ 0 ∧ stByte v 4 ≠ 0 then .ok (stagedChan v)
      else .error .chanRange := by
  simp only [checkChan, require_bind, decide_eq_true_iff, bne_iff_ne, ← ite_and]
  rfl

/-- The staged position configuration is in its ranges (R153). -/
abbrev PosInRange : Prop :=
  (stByte v 0).toNat ≤ 3 ∧ (stByte v 1 = 0xFF ∨ stByte v 1 = 0 ∨ stByte v 1 = 1) ∧
    (stByte v 2 = 0xFF ∨ stByte v 2 = 0 ∨ stByte v 2 = 1) ∧ 8 ≤ (stByte v 3).toNat ∧
    (stByte v 3).toNat ≤ 32 ∧ 1 ≤ (stByte v 4).toNat ∧ (stByte v 4).toNat ≤ (stByte v 3).toNat ∧
    (stByte v 5).toNat ≤ 1 ∧ (stByte v 6).toNat ≤ 3 ∧ stByte v 7 ≠ 0 ∧ (stByte v 8).toNat ≤ 2

/-- The position configuration that the staging area spells. -/
def stagedPos : PosConfig :=
  { mode :=
      if stByte v 0 = 0 then .off
      else if stByte v 0 = 1 then .edge
      else if stByte v 0 = 2 then .quadrature
      else .updown
    signA := if stByte v 1 = 0xFF then .minus else if stByte v 1 = 0 then .zero else .plus
    signB := if stByte v 2 = 0xFF then .minus else if stByte v 2 = 0 then .zero else .plus
    enc :=
      { totalBits := stByte v 3, validBits := stByte v 4
        coding := if stByte v 5 = 0 then .binary else .gray
        clock :=
          if stByte v 6 = 0 then .mhz1
          else if stByte v 6 = 1 then .khz500
          else if stByte v 6 = 2 then .khz250
          else .khz125
        recoveryMicros := stByte v 7
        check := if stByte v 8 = 0 then .none else if stByte v 8 = 1 then .high else .low } }

theorem checkPos_eq :
    checkPos v = if PosInRange v then .ok (stagedPos v) else .error .posRange := by
  simp only [checkPos, stPosMode_eq, stSign_eq, stCoding_eq, stClock_eq, stEncCheck_eq, need_ite,
    ite_checked_bind, require_bind, Bool.and_eq_true, decide_eq_true_iff, bne_iff_ne, ← ite_and, and_assoc]
  rfl

end Checks

/-! ### The four changes of direction (R138) -/

section Configure

variable {c : Channel} {g : ChanConfig}

/-- What a STORE of a channel's configuration leaves as it was, whatever the directions. -/
theorem Channel.configure_inputSide (c : Channel) (g : ChanConfig) :
    (c.configure g).cfg = g ∧ (c.configure g).sensed = c.sensed ∧ (c.configure g).filtered = c.filtered ∧
      (c.configure g).cand = c.cand ∧ (c.configure g).fifo = c.fifo ∧ (c.configure g).rises = c.rises ∧
      (c.configure g).falls = c.falls := by
  unfold Channel.configure
  split
  · exact ⟨rfl, rfl, rfl, rfl, rfl, rfl, rfl⟩
  · rw [Channel.enable_eq]
    exact ⟨rfl, rfl, rfl, rfl, rfl, rfl, rfl⟩
  · exact ⟨rfl, rfl, rfl, rfl, rfl, rfl, rfl⟩
  · rename_i after
    rw [Channel.toRest_of_output (c := { c with cfg := g }) after]
    exact ⟨rfl, rfl, rfl, rfl, rfl, rfl, rfl⟩

theorem Channel.configure_of_inputs (before : c.cfg.direction = .input) (after : g.direction = .input) :
    c.configure g = { c with cfg := g } := by
  simp only [Channel.configure, before, after]

theorem Channel.configure_of_driven (before : c.cfg.direction = .input) (after : g.direction = .output) :
    c.configure g =
      { c with
        cfg := g, lastCmd := g.rest, out := some .enabled, holdOff := none
        mismatch := if c.sensed = g.rest then none else some (100 * g.checkDelay.toNat) } := by
  simp only [Channel.configure, before, after, Channel.enable_eq]

theorem Channel.configure_of_released (before : c.cfg.direction = .output) (after : g.direction = .input) :
    c.configure g = { c with cfg := g, out := none, mismatch := none, holdOff := none } := by
  simp only [Channel.configure, before, after]

theorem Channel.configure_of_outputs (before : c.cfg.direction = .output) (after : g.direction = .output) :
    c.configure g =
      { c with
        cfg := g, lastCmd := g.rest
        mismatch :=
          if c.out = some .enabled then
            if c.sensed = g.rest then none else some (c.mismatch.getD (100 * g.checkDelay.toNat))
          else c.mismatch } := by
  simp only [Channel.configure, before, after]
  exact Channel.toRest_of_output (c := { c with cfg := g }) after

end Configure

/-! ### STORE of the two tables (R187) -/

section Record

variable {t : State}

theorem storeRecord_chan (table : t.selectedTable = 4) {c : Fin 8} (index : t.host.tableIndex.toNat = c.val) :
    t.storeRecord = t.storeChecked (checkChan t.host.staging) fun t g => t.storeChan c g := by
  simp only [State.storeRecord, table, State.storeChanAt, index, tableIx_val]
  rfl

theorem storeRecord_pos (table : t.selectedTable = 5) (index : t.host.tableIndex = 0) :
    t.storeRecord = t.storeChecked (checkPos t.host.staging) State.storePos := by
  have names : tableIx 1 t.host.tableIndex.toNat = .ok 0 :=
    (congrArg (fun i : Byte => tableIx 1 i.toNat) index).trans (tableIx_val 0)
  simp only [State.storeRecord, table, State.storePosAt, names]
  rfl

end Record

/-- The position unit once a configuration is stored: a new mode clears the counting side (R154). -/
def State.posStored (s : State) (g : PosConfig) : PositionUnit :=
  if g.mode = s.pos.cfg.mode then { s.pos with cfg := g }
  else
    { s.pos with
      cfg := g, cntA := 0, cntB := 0, offset := 0, quadErrors := 0
      pair0 := s.chans[0].filtered, pair1 := s.chans[1].filtered }

theorem storePos_eq (s : State) (g : PosConfig) : s.storePos g = s.setPos (s.posStored g) := by
  unfold State.storePos State.posStored
  split <;> rfl

theorem storeTaken_setChans (s : State) (v : Vector Channel 8) :
    ((((s.hostWrite 0x2B#7).setChans v).clearError).taken 0x40) =
      { s with chans := v, host := s.host.storeTaken } := rfl

theorem storeTaken_setPos (s : State) (p : PositionUnit) :
    ((((s.hostWrite 0x2B#7).setPos p).clearError).taken 0x40) =
      { s with pos := p, host := s.host.storeTaken } := rfl

/-- Settles O17: a STORE of either table is its checked write, and the four changes of direction are the four
cases of the write. -/
theorem storeTakesEffect : Obligations.StoreTakesEffect := by
  unfold Obligations.StoreTakesEffect
  refine ⟨fun s value released config => ⟨fun table c index => ?chan, fun table index => ?pos⟩,
    fun v => ⟨check_cases (checkChan_eq v), check_cases (checkPos_eq v)⟩⟩
  case chan =>
    have stored := exec_store_checked (value := value) released config (by omega)
      (storeRecord_chan (t := s.hostWrite 0x2B#7) table index) fun g => storeTaken_setChans s _
    refine ⟨fun g checked => ⟨_, stored.1 g checked, fun d other => ?_, ?_⟩, stored.2⟩
    · rw [Fin.getElem_fin, getElem_updVec, if_neg fun same => other (Fin.ext same.symm)]
      rfl
    · have at_ : (updVec (s.hostWrite 0x2B#7).chans c fun ch => ch.configure g)[c] =
          s.chans[c].configure g := by
        rw [Fin.getElem_fin, getElem_updVec, if_pos rfl]
        rfl
      obtain ⟨cfg, sensed, filtered, cand, fifo, rises, falls⟩ := Channel.configure_inputSide s.chans[c] g
      rw [at_]
      refine ⟨cfg, sensed, filtered, cand, fifo, rises, falls, Channel.configure_of_inputs,
        fun before after => ?_, fun before after => ?_, fun before after => ?_⟩
      · rw [Channel.configure_of_driven before after]
        exact ⟨rfl, rfl, rfl, rfl⟩
      · rw [Channel.configure_of_released before after]
        exact ⟨rfl, rfl, rfl, rfl⟩
      · rw [Channel.configure_of_outputs before after]
        exact ⟨rfl, rfl, rfl, rfl⟩
  case pos =>
    have stored := exec_store_checked (value := value) released config (by omega)
      (storeRecord_pos (t := s.hostWrite 0x2B#7) table index)
      (after := fun g => { s with pos := s.posStored g, host := s.host.storeTaken })
      fun g => by rw [storePos_eq]; exact storeTaken_setPos s _
    refine ⟨fun g checked => ⟨fun same => ?_, fun other => ?_⟩, stored.2⟩ <;>
      rw [stored.1 g checked, State.posStored]
    · rw [if_pos same]
    · rw [if_neg other]

/-! ### STORE refused (R187) -/

theorem tableWritable_iff (s : State) :
    s.tableWritable = true ↔ s.station.mode = .config ∧ s.selectedTable ≤ 5 := by
  simp [State.tableWritable, State.inConfig]

theorem tableWritable_eq_false {s : State} (closed : s.station.mode ≠ .config ∨ 5 < s.selectedTable) :
    s.tableWritable = false := by
  rw [Bool.eq_false_iff, ne_eq, tableWritable_iff]
  rintro ⟨config, table⟩
  rcases closed with outside | above
  · exact outside config
  · omega

theorem tableIx_of_le {n i : Nat} (outside : n ≤ i) : tableIx n i = .error .tableIndex := by
  rw [tableIx, ixOf_none outside]
  rfl

theorem storeRecord_of_no_index {t : State}
    (outside : t.selectedTable = 0 ∧ 0 < t.host.tableIndex.toNat ∨
      t.selectedTable = 1 ∧ 31 < t.host.tableIndex.toNat ∨
      t.selectedTable = 2 ∧ 63 < t.host.tableIndex.toNat ∨
      t.selectedTable = 3 ∧ 1 < t.host.tableIndex.toNat ∨
      t.selectedTable = 4 ∧ 7 < t.host.tableIndex.toNat ∨
      t.selectedTable = 5 ∧ 0 < t.host.tableIndex.toNat) :
    t.storeRecord = t.checkFailed 0x40 .tableIndex := by
  obtain ⟨table, above⟩ | ⟨table, above⟩ | ⟨table, above⟩ | ⟨table, above⟩ | ⟨table, above⟩ |
    ⟨table, above⟩ := outside <;>
    simp only [State.storeRecord, table, State.storeStationAt, State.storeBindingAt, State.storeSubAt,
      State.storeCmpAt, State.storeChanAt, State.storePosAt, tableIx_of_le above] <;> rfl

/-- Settles O18: a STORE that is not writable is refused, and a writable one needs its index in the table. -/
theorem storeRefused : Obligations.StoreRefused := by
  unfold Obligations.StoreRefused
  intro s value released
  refine ⟨fun closed => ?_, fun config outside => ?_⟩
  · have closed : (s.hostWrite 0x2B#7).tableWritable = false := tableWritable_eq_false (s := s.hostWrite 0x2B#7) closed
    refine (act_released (fun s => (s.hostWrite 0x2B#7).store) released).trans ?_
    rw [State.store, closed]
    rfl
  · rw [exec_store released config (by omega), storeRecord_of_no_index (t := s.hostWrite 0x2B#7) outside,
      checkFailed_store]
    rfl

/-! ### A write to the table data (R187) -/

theorem exec_tableData {s : State} {offset : Nat} {value : Byte} (released : s.resetHeld = false)
    (inside : offset < 24) :
    exec (.tableData offset value) s =
      .next ((s.hostWrite (BitVec.ofNat 7 (0x30 + offset))).writeData offset value) :=
  actIf_due (fun s => (s.hostWrite (BitVec.ofNat 7 (0x30 + offset))).writeData offset value) released
    (decide_eq_true inside)

/-- Settles O19: page and address name one byte of the staging area, and the others read as before. -/
theorem tableDataWritten : Obligations.TableDataWritten := by
  unfold Obligations.TableDataWritten
  intro s offset value released inside
  rw [exec_tableData released inside]
  refine ⟨fun config table =>
    ⟨s.host.staging.setIfInBounds (s.stagingOffset offset) value, ?written, ?reads⟩, fun closed => ?refused⟩
  case written =>
    have writable : (s.hostWrite (BitVec.ofNat 7 (0x30 + offset))).tableWritable = true :=
      (tableWritable_iff (s.hostWrite _)).mpr ⟨config, table⟩
    rw [State.writeData, writable]
    rfl
  case reads =>
    have reads (i : Nat) := stByte_write s.host.staging _ value i (stagingOffset_lt s offset inside)
    refine ⟨fun page => ?_, fun page => ?_⟩
    · have at_ : s.stagingOffset offset = offset := by rw [State.stagingOffset, page]; rfl
      rw [at_] at reads ⊢
      exact ⟨by simpa using reads offset, fun i other => by simpa [other.symm] using reads i⟩
    · have at_ : s.stagingOffset offset = 24 + offset := by rw [State.stagingOffset, page]; rfl
      rw [at_] at reads ⊢
      exact ⟨by simpa using reads (24 + offset), fun i other => by simpa [other.symm] using reads i⟩
  case refused =>
    have closed : (s.hostWrite (BitVec.ofNat 7 (0x30 + offset))).tableWritable = false :=
      tableWritable_eq_false (s := s.hostWrite _) closed
    have address : (0x30 : Byte) + natByte offset = BitVec.ofNat 8 (0x30 + offset) := by
      simp [natByte, BitVec.ofNat_add]
    rw [State.writeData, closed, address]
    rfl

end Sys2Proof.Machine
end

section
/-! PROOF of O23: where a write of the register window goes, by its address. -/

namespace Sys2Proof.Machine

/-! ### A data byte of a write (R181) -/

theorem commandDir_write (a : BitVec 7) : commandDir (0#1 ++ a) = .write := by
  rw [commandDir, BitVec.getLsbD_append]
  rfl

theorem setWidth_command (d : BitVec 1) (a : BitVec 7) : (d ++ a).setWidth 7 = a := by
  refine BitVec.eq_of_getLsbD_eq fun i inside => ?_
  rw [BitVec.getLsbD_setWidth, BitVec.getLsbD_append]
  simp [inside]

theorem ofNat_command {n : Nat} (inside : n < 128) : BitVec.ofNat 8 n = 0#1 ++ BitVec.ofNat 7 n := by
  apply BitVec.eq_of_toNat_eq
  rw [BitVec.toNat_append, BitVec.toNat_ofNat, BitVec.toNat_ofNat]
  simp
  omega

theorem exec_write {s : State} (released : s.resetHeld = false) (a : BitVec 7) (value : Byte) :
    exec (.registerWrite (0#1 ++ a) (some value)) s =
      .next ((s.hostWrite a).writeRegister a.toNat value) := by
  refine (act_released (fun s => s.portByte (0#1 ++ a) (some value)) released).trans ?_
  simp only [State.portByte, commandDir_write, setWidth_command, State.dataByte]

theorem exec_write_ofNat {s : State} (released : s.resetHeld = false) {n : Nat} (inside : n < 128)
    (value : Byte) :
    exec (.registerWrite (BitVec.ofNat 8 n) (some value)) s =
      .next ((s.hostWrite (BitVec.ofNat 7 n)).writeRegister n value) := by
  rw [ofNat_command inside, exec_write released, BitVec.toNat_ofNat, Nat.mod_eq_of_lt inside]

/-! ### The register that an address names (R182, R183) -/

section Address

variable (s : State) (value : Byte)

theorem writeRegister_param {i : Nat} (inside : i < 8) :
    s.writeRegister (0x20 + i) value = s.writeParam i value := by
  rw [State.writeRegister, if_pos (by omega), Nat.add_sub_cancel_left]

theorem writeRegister_data {i : Nat} (inside : i < 24) :
    s.writeRegister (0x30 + i) value = s.writeData i value := by
  rw [State.writeRegister, if_neg (by omega), if_neg (by omega), if_neg (by omega), if_neg (by omega),
    if_neg (by omega), if_pos (by omega), Nat.add_sub_cancel_left]

theorem readOnlyAddress_iff (a : Nat) :
    readOnlyAddress a = true ↔ a ≤ 0x0E ∨ 0x10 ≤ a ∧ a ≤ 0x15 ∨ 0x18 ≤ a ∧ a ≤ 0x1F := by
  simp [readOnlyAddress, or_assoc]

theorem writeRegister_readOnly {a : Nat} (readOnly : a ≤ 0x0E ∨ 0x10 ≤ a ∧ a ≤ 0x15 ∨ 0x18 ≤ a ∧ a ≤ 0x1F) :
    s.writeRegister a value = s.accessRefused (natByte a) := by
  rw [State.writeRegister, if_neg (by omega), if_neg (by omega), if_neg (by omega), if_neg (by omega),
    if_neg (by omega), if_neg (by omega), if_pos ((readOnlyAddress_iff a).mpr readOnly)]

theorem writeRegister_outside {a : Nat}
    (outside : a = 0x0F ∨ a = 0x16 ∨ a = 0x17 ∨ 0x2C ≤ a ∧ a ≤ 0x2F ∨ 0x48 ≤ a) :
    s.writeRegister a value = s := by
  rw [State.writeRegister, if_neg (by omega), if_neg (by omega), if_neg (by omega), if_neg (by omega),
    if_neg (by omega), if_neg (by omega), if_neg (by rw [readOnlyAddress_iff]; omega)]

end Address

theorem natByte_toNat (a : BitVec 7) : natByte a.toNat = a.setWidth 8 := by
  apply BitVec.eq_of_toNat_eq
  rw [natByte, BitVec.toNat_ofNat, BitVec.toNat_setWidth]

/-- Settles O23: the address names a register, a table's, a command, or none. -/
theorem registerWriteTaken : Obligations.RegisterWriteTaken := by
  unfold Obligations.RegisterWriteTaken
  intro s value released
  refine ⟨fun i => ?param, exec_write released 0x29#7 value, fun a readOnly => ?readOnly,
    fun a outside => ?outside, rfl, rfl, rfl, rfl, rfl, rfl, rfl, rfl, rfl, fun i => ?data, fun _ => rfl⟩
  case param =>
    refine ⟨s.host.params.setIfInBounds i.val value, ?_, by simp, fun j other => ?_⟩
    · rw [exec_write_ofNat released (by omega), writeRegister_param _ _ i.isLt]
      rfl
    · have apart : i.val ≠ j.val := fun same => other (Fin.ext same.symm)
      simp [apart]
  case readOnly =>
    rw [exec_write released, writeRegister_readOnly _ _ readOnly, natByte_toNat]
    rfl
  case outside =>
    rw [exec_write released, writeRegister_outside _ _ outside]
    rfl
  case data =>
    rw [exec_write_ofNat released (by omega), writeRegister_data _ _ i.isLt, exec_tableData released i.isLt]

end Sys2Proof.Machine
end

section
/-! PROOF of O21: what every address reads as, what the reads of a transaction change, and the eight bytes in
which a report is shown. -/

namespace Sys2Proof.Machine

/-! ### A data byte of a read (R181) -/

/-- The host port with a data byte loaded for output. -/
theorem reading_eq (h : HostUnit) (a : BitVec 7) (byte : Byte) :
    h.reading a byte =
      { h with
        transaction := some { dir := .read, next := a + 1 }, sdo := some byte
        captureLive :=
          h.captureLive && decide (h.transaction = some { dir := .read, next := a }) } := by
  have at_ : h.readsAt a = decide (h.transaction = some { dir := .read, next := a }) := by
    rw [Bool.eq_iff_iff, readsAt_iff, decide_eq_true_iff]
  rw [HostUnit.reading, at_]
  rfl

theorem commandDir_read (a : BitVec 7) : commandDir (1#1 ++ a) = .read := by
  rw [commandDir, BitVec.getLsbD_append]
  rfl

section Exec

variable {s : State} (released : s.resetHeld = false)

include released

theorem exec_timeSnapshot : exec .timeSnapshot s = .next s.takeSnapshot :=
  act_released State.takeSnapshot released

theorem exec_reportWindow : exec .reportWindow s = .next s.captureHead :=
  act_released State.captureHead released

theorem exec_reportHeadRemove : exec .reportHeadRemove s = .next s.removeHead :=
  act_released State.removeHead released

theorem exec_read (a : BitVec 7) (x : Byte) :
    exec (.registerWrite (1#1 ++ a) (some x)) s = .next (s.readRegister a) := by
  refine (act_released (fun s => s.portByte (1#1 ++ a) (some x)) released).trans ?_
  simp only [State.portByte, commandDir_read, setWidth_command, State.dataByte]

theorem exec_command_byte (command : Byte) :
    exec (.registerWrite command none) s = .next (s.setHost (s.host.beginTransaction command)) :=
  act_released (fun s => s.portByte command none) released

end Exec

/-! ### The report window (R190) -/

section ReportWindow

variable (s : State)

theorem captureHead_of_cons {r : Report} {q : List Report} (reports : s.host.reports = r :: q) :
    s.captureHead =
      s.setHost
        { s.host.reading 0x18 r.bytes[0] with
          capture := r.bytes, captureLive := true, reports := r.close :: q } := by
  simp only [State.captureHead, reports, captureOf, closeHead, List.isEmpty_cons, Bool.not_false]

theorem captureHead_of_nil (reports : s.host.reports = []) :
    s.captureHead =
      s.setHost
        { s.host.reading 0x18 0 with
          capture := Vector.replicate 8 0, captureLive := false, reports := [] } := by
  simp only [State.captureHead, reports, captureOf, closeHead, List.isEmpty_nil, Bool.not_true]
  rfl

variable {s}

/-- The transaction has come past byte 0 of the report window and not past byte 7. -/
abbrev HostUnit.OnTo7 (h : HostUnit) : Prop :=
  ∃ n : BitVec 7, h.transaction = some { dir := .read, next := n } ∧ 0x19 ≤ n.toNat ∧ n.toNat ≤ 0x20

theorem removeHead_of_live (onTo : s.host.OnTo7) (live : s.host.captureLive = true) :
    s.removeHead =
      s.setHost
        { s.host.moveOn .read 0x1F s.host.capture[7] with
          reports := s.host.reports.tail, captureLive := false } := by
  have read : s.host.readByte7 = s.host.moveOn .read 0x1F s.host.capture[7] := if_pos ((readsOnToByte7_iff _).mpr onTo)
  rw [State.removeHead, read]
  exact congrArg s.setHost (if_pos live)

theorem captureLive_of_readByte7 (gone : ¬s.host.OnTo7 ∨ s.host.captureLive = false) :
    s.host.readByte7.captureLive = false := by
  by_cases onTo : s.host.OnTo7
  · have read : s.host.readByte7 = s.host.moveOn .read 0x1F s.host.capture[7] := if_pos ((readsOnToByte7_iff _).mpr onTo)
    rw [read]
    exact gone.resolve_left fun off => off onTo
  · have elsewhere : s.host.transaction ≠ some { dir := .read, next := 0x1F } :=
      fun at_ => onTo ⟨0x1F, at_, by decide, by decide⟩
    have read : s.host.readByte7 = s.host.reading 0x1F s.host.capture[7] := if_neg (by rwa [readsOnToByte7_iff])
    rw [read, reading_eq, decide_eq_false elsewhere]
    exact Bool.and_false _

theorem removeHead_of_gone (gone : ¬s.host.OnTo7 ∨ s.host.captureLive = false) :
    s.removeHead =
      s.setHost { s.host.reading 0x1F s.host.capture[7] with captureLive := false } := by
  have dead := captureLive_of_readByte7 gone
  have same : s.host.readByte7 = { s.host.reading 0x1F s.host.capture[7] with captureLive := false } := by
    rw [← dead]
    unfold HostUnit.readByte7
    split <;> rfl
  rw [State.removeHead, if_neg (by simp [dead]), same]

theorem removeHead_captureLive (s : State) : s.removeHead.host.captureLive = false := by
  simp only [State.removeHead, State.setHost_host]
  split
  · rfl
  · exact Bool.eq_false_iff.mpr ‹_›

theorem readByte_removeHead (s : State) : s.removeHead.readByte 0x20 = s.readByte 0x20 := by
  have params : s.removeHead.host.params = s.host.params := by
    simp only [State.removeHead, HostUnit.readByte7, State.setHost_host]
    split <;> split <;> rfl
  change s.removeHead.host.params[0x20 - 0x20]?.getD 0 = s.host.params[0x20 - 0x20]?.getD 0
  rw [params]

end ReportWindow

/-! ### What an address reads as (R182, R183) -/

section Value

variable (s : State)

theorem readByte_stuckTime {i : Nat} (inside : i < 6) :
    s.readByte (BitVec.ofNat 7 (0x04 + i)) = s.line.stuckTime.extractLsb' (8 * i) 8 := by
  have at_ : (BitVec.ofNat 7 (0x04 + i)).toNat = 0x04 + i := by simp; omega
  simp only [State.readByte, at_]
  rw [if_neg (by omega), if_neg (by omega), if_neg (by omega), if_neg (by omega), if_pos (by omega),
    Nat.add_sub_cancel_left]

theorem readByte_snapshot {i : Nat} (inside : i < 6) (behind : i ≠ 0) :
    s.readByte (BitVec.ofNat 7 (0x10 + i)) = s.host.snapshot.extractLsb' (8 * i) 8 := by
  have at_ : (BitVec.ofNat 7 (0x10 + i)).toNat = 0x10 + i := by simp; omega
  simp only [State.readByte, at_]
  rw [if_neg (by omega), if_neg (by omega), if_neg (by omega), if_neg (by omega), if_neg (by omega),
    if_neg (by omega), if_neg (by omega), if_neg (by omega), if_neg (by omega), if_neg (by omega),
    if_neg (by omega), if_pos (by omega), Nat.add_sub_cancel_left]

theorem readByte_capture {i : Nat} (inside : i < 8) (behind : i ≠ 0) :
    s.readByte (BitVec.ofNat 7 (0x18 + i)) = s.host.capture[i] := by
  have at_ : (BitVec.ofNat 7 (0x18 + i)).toNat = 0x18 + i := by simp; omega
  simp only [State.readByte, at_]
  rw [if_neg (by omega), if_neg (by omega), if_neg (by omega), if_neg (by omega), if_neg (by omega),
    if_neg (by omega), if_neg (by omega), if_neg (by omega), if_neg (by omega), if_neg (by omega),
    if_neg (by omega), if_neg (by omega), if_neg (by omega), if_pos (by omega), Nat.add_sub_cancel_left]
  simp [inside]

theorem readByte_param {i : Nat} (inside : i < 8) :
    s.readByte (BitVec.ofNat 7 (0x20 + i)) = s.host.params[i] := by
  have at_ : (BitVec.ofNat 7 (0x20 + i)).toNat = 0x20 + i := by simp; omega
  simp only [State.readByte, at_]
  rw [if_neg (by omega), if_neg (by omega), if_neg (by omega), if_neg (by omega), if_neg (by omega),
    if_neg (by omega), if_neg (by omega), if_neg (by omega), if_neg (by omega), if_neg (by omega),
    if_neg (by omega), if_neg (by omega), if_neg (by omega), if_neg (by omega), if_pos (by omega),
    Nat.add_sub_cancel_left]
  simp [inside]

theorem readByte_staging {i : Nat} (inside : i < 24) :
    s.readByte (BitVec.ofNat 7 (0x30 + i)) = stByte s.host.staging (s.stagingOffset i) := by
  have at_ : (BitVec.ofNat 7 (0x30 + i)).toNat = 0x30 + i := by simp; omega
  simp only [State.readByte, at_]
  rw [if_neg (by omega), if_neg (by omega), if_neg (by omega), if_neg (by omega), if_neg (by omega),
    if_neg (by omega), if_neg (by omega), if_neg (by omega), if_neg (by omega), if_neg (by omega),
    if_neg (by omega), if_neg (by omega), if_neg (by omega), if_neg (by omega), if_neg (by omega),
    if_neg (by omega), if_neg (by omega), if_pos (by omega), Nat.add_sub_cancel_left]

theorem readByte_outside {a : Nat}
    (outside : a = 0x0F ∨ a = 0x16 ∨ a = 0x17 ∨ 0x2C ≤ a ∧ a ≤ 0x2F ∨ 0x48 ≤ a ∧ a ≤ 0x7F) :
    s.readByte (BitVec.ofNat 7 a) = 0 := by
  have at_ : (BitVec.ofNat 7 a).toNat = a := by simp; omega
  simp only [State.readByte, at_]
  rw [if_neg (by omega), if_neg (by omega), if_neg (by omega), if_neg (by omega), if_neg (by omega),
    if_neg (by omega), if_neg (by omega), if_neg (by omega), if_neg (by omega), if_neg (by omega),
    if_neg (by omega), if_neg (by omega), if_neg (by omega), if_neg (by omega), if_neg (by omega),
    if_neg (by omega), if_neg (by omega), if_neg (by omega)]

theorem lineStatus_toNat :
    s.lineStatus.toNat =
      (match s.line.rx with | .off => 0 | .seeking => 1 | .free => 2 | .receiving => 3) +
        4 * (match s.line.attempt with | .waitGap => 0 | .arbitrating => 1 | .sending => 2) +
        16 * s.line.stuck.toNat := by
  unfold State.lineStatus
  cases s.line.rx <;> cases s.line.attempt <;> cases s.line.stuck <;> rfl

end Value

/-! ### The eight bytes of a report (R195) -/

theorem append_bytes (a : Value32) :
    a.extractLsb' 24 8 ++ a.extractLsb' 16 8 ++ a.extractLsb' 8 8 ++ a.extractLsb' 0 8 = a := by
  rw [BitVec.extractLsb'_append_extractLsb'_eq_extractLsb' (by rfl),
    BitVec.extractLsb'_append_extractLsb'_eq_extractLsb' (by rfl),
    BitVec.extractLsb'_append_extractLsb'_eq_extractLsb' (by rfl)]
  exact BitVec.extractLsb'_eq_self

theorem report_shown {body : ReportBody} (time : LineTime) {kind : Nat} {a : Value32} {b : Byte}
    (code : body.code.extractLsb' 0 5 = BitVec.ofNat 5 kind) (paramA : body.paramA = a)
    (paramB : body.paramB = b) :
    let bytes := ({ body := body, time := time } : Report).bytes
    bytes[0] = time.extractLsb' 32 3 ++ BitVec.ofNat 5 kind ∧
      bytes[2] ++ bytes[1] = time.extractLsb' 16 16 ∧ bytes[3] = b ∧
      bytes[7] ++ bytes[6] ++ bytes[5] ++ bytes[4] = a := by
  subst paramA paramB
  exact ⟨congrArg (time.extractLsb' 32 3 ++ ·) code,
    BitVec.extractLsb'_append_extractLsb'_eq_extractLsb' (by rfl), rfl, append_bytes body.paramA⟩

/-- Settles O21: the reads one by one, the addresses by their ranges, and the kinds of report. -/
theorem hostReads : Obligations.HostReads := by
  unfold Obligations.HostReads
  refine ⟨fun s released => ?reads, fun s => ?values, rfl, fun time e i n c m x => ?reports, fun _ _ _ _ => rfl,
    fun r other => ?close⟩
  case reads =>
    refine ⟨?snapshot, act_released (fun s => s.setHost s.host.endTransaction) released,
      fun r q reports => ?cons, fun reports => ?nil, fun onTo live => ?live, fun gone => ?gone,
      fun a x => ⟨?at10, ?at18, fun not10 not18 not20 => ?plain, fun at20 behind => ?at20⟩,
      exec_command_byte released⟩
    case snapshot =>
      rw [exec_timeSnapshot released, State.takeSnapshot, reading_eq]
      rfl
    case cons =>
      rw [exec_reportWindow released, captureHead_of_cons s reports, reading_eq]
      rfl
    case nil =>
      rw [exec_reportWindow released, captureHead_of_nil s reports, reading_eq, ← reports]
      rfl
    case live =>
      rw [exec_reportHeadRemove released, removeHead_of_live onTo live]
      rfl
    case gone =>
      rw [exec_reportHeadRemove released, removeHead_of_gone gone, reading_eq]
      rfl
    case at10 =>
      rintro rfl
      rw [exec_read released, exec_timeSnapshot released]
      rfl
    case at18 =>
      rintro rfl
      rw [exec_read released, exec_reportWindow released]
      rfl
    case plain =>
      rw [exec_read released, State.readRegister, if_neg not10, if_neg not18, State.behindByte7, if_neg not20,
        State.loadByte, reading_eq]
      rfl
    case at20 =>
      subst at20
      refine ⟨_, exec_reportHeadRemove released, ?_⟩
      rw [exec_read released, State.readRegister, if_neg (by decide), if_neg (by decide), State.behindByte7,
        if_pos ⟨rfl, behind⟩, State.loadByte, reading_eq, readByte_removeHead]
      have dead (b : Bool) : (s.removeHead.host.captureLive && b) = s.removeHead.host.captureLive := by
        rw [removeHead_captureLive, Bool.false_and]
      rw [dead]
      rfl
  case values =>
    refine ⟨rfl, rfl, rfl, lineStatus_toNat s, fun i => readByte_stuckTime s i.isLt, rfl, rfl, rfl, rfl, rfl, rfl,
      fun i behind => readByte_snapshot s i.isLt fun zero => behind (Fin.ext zero), ?head,
      fun i behind => readByte_capture s i.isLt fun zero => behind (Fin.ext zero),
      fun i => readByte_param s i.isLt, rfl, rfl, rfl, rfl, fun i => readByte_staging s i.isLt,
      fun a => readByte_outside s⟩
    case head =>
      change (captureOf s.host.reports)[0] = _
      cases s.host.reports <;> rfl
  case reports =>
    have shown {body : ReportBody} {kind : Nat} {a : Value32} {b : Byte} :=
      report_shown (body := body) (kind := kind) (a := a) (b := b) time
    exact ⟨shown rfl rfl rfl, shown rfl rfl rfl, shown rfl rfl rfl, fun _ => shown rfl rfl rfl, shown rfl rfl rfl,
      shown rfl rfl rfl, shown rfl rfl rfl, shown rfl rfl rfl, shown rfl rfl rfl, shown rfl rfl rfl,
      fun _ _ _ _ => shown rfl rfl rfl, fun _ => shown rfl rfl rfl, shown rfl rfl rfl, shown rfl rfl rfl,
      shown rfl rfl rfl, shown rfl rfl rfl, shown rfl rfl rfl, shown rfl rfl rfl, shown rfl rfl rfl,
      shown rfl rfl rfl, shown rfl rfl rfl, shown rfl rfl rfl, shown rfl rfl rfl, shown rfl rfl rfl, shown rfl rfl rfl,
      shown rfl rfl rfl, shown rfl rfl rfl, shown rfl rfl rfl, shown rfl rfl rfl, shown rfl rfl rfl,
      shown rfl rfl rfl, shown rfl rfl rfl, shown rfl rfl rfl, shown rfl rfl rfl, fun _ => shown rfl rfl rfl,
      fun _ => shown rfl rfl rfl, shown rfl rfl rfl, shown rfl rfl rfl, fun _ _ _ => shown rfl rfl rfl⟩
  case close =>
    unfold Report.close
    split
    · exact absurd ‹_› (other _ _ _)
    · rfl

end Sys2Proof.Machine
end

section
/-! PROOF of O20: the load of the staging area, the fields of a loaded record, and each view byte by byte. -/

namespace Sys2Proof.Machine

/-! ### Numbers and flags in bytes (R182, R196) -/

theorem sum_digits (m n : Nat) :
    ((List.range n).map fun j => m / 256 ^ j % 256 * 256 ^ j).sum = m % 256 ^ n := by
  induction n with
  | zero => simp [Nat.mod_one]
  | succ n ih =>
    rw [List.range_succ, List.map_append, List.sum_append, ih, Nat.pow_succ, Nat.mod_mul]
    simp [Nat.mul_comm]

theorem extractLsb'_toNat {w : Nat} (x : BitVec w) (j : Nat) :
    (x.extractLsb' (8 * j) 8).toNat = x.toNat / 256 ^ j % 256 := by
  rw [BitVec.extractLsb'_toNat, Nat.shiftRight_eq_div_pow, Nat.pow_mul]

/-- The number that the bytes of a value spell, least significant first. -/
theorem sum_leBytes {w n : Nat} (x : BitVec w) (wide : w ≤ 8 * n) {f : Nat → Byte}
    (bytes : (List.range n).map f = leBytes n x) :
    ((List.range n).map fun j => (f j).toNat * 256 ^ j).sum = x.toNat := by
  have digit : ∀ j ∈ List.range n, (f j).toNat * 256 ^ j = x.toNat / 256 ^ j % 256 * 256 ^ j := by
    intro j mem
    rw [List.map_inj_left.mp bytes j mem, extractLsb'_toNat]
  have bound : x.toNat < 256 ^ n :=
    calc x.toNat < 2 ^ w := x.isLt
      _ ≤ 2 ^ (8 * n) := Nat.pow_le_pow_right (by decide) wide
      _ = 256 ^ n := Nat.pow_mul 2 8 n
  rw [List.map_congr_left digit, sum_digits, Nat.mod_eq_of_lt bound]

theorem append_toNat {m n : Nat} (x : BitVec m) (y : BitVec n) :
    (x ++ y).toNat = x.toNat * 2 ^ n + y.toNat := by
  rw [BitVec.toNat_append, ← Nat.shiftLeft_add_eq_or_of_lt y.isLt, Nat.shiftLeft_eq]

theorem flagBit_toNat (b : Bool) : (flagBit b).toNat = b.toNat := by cases b <;> rfl

theorem packBits_cons_of_lt (b : Bool) {l : List Bool} (small : (packBits l).toNat < 2 ^ 7) :
    (packBits (b :: l)).toNat = b.toNat + 2 * (packBits l).toNat := by
  have bit : (if b then 1 else 0 : Byte).toNat = b.toNat := by cases b <;> rfl
  have low : b.toNat < 2 ^ 1 := b.toNat_lt
  have high : (packBits l).toNat <<< 1 < 2 ^ 8 := by rw [Nat.shiftLeft_eq]; omega
  rw [packBits, BitVec.toNat_or, BitVec.toNat_shiftLeft, Nat.mod_eq_of_lt high, bit,
    ← Nat.shiftLeft_add_eq_or_of_lt low, Nat.shiftLeft_eq]
  omega

theorem packBits_lt (l : List Bool) (short : l.length ≤ 8) : (packBits l).toNat < 2 ^ l.length := by
  induction l with
  | nil => decide
  | cons b l ih =>
    have small := ih (by simp at short; omega)
    have low := b.toNat_lt
    rw [packBits_cons_of_lt b (small.trans_le (Nat.pow_le_pow_right (by decide) (by simp at short; omega))),
      List.length_cons, Nat.pow_succ]
    omega

/-- Flags in a byte, the first at bit 0. -/
theorem packBits_cons (b : Bool) (l : List Bool) (short : l.length ≤ 7) :
    (packBits (b :: l)).toNat = b.toNat + 2 * (packBits l).toNat :=
  packBits_cons_of_lt b ((packBits_lt l (by omega)).trans_le (Nat.pow_le_pow_right (by decide) short))

theorem packBits_nil : (packBits []).toNat = 0 := rfl

theorem natByte_toNat_mod (n : Nat) : (natByte n).toNat = n % 256 := BitVec.toNat_ofNat ..

/-! ### The loaded record (R186) -/

section Shown

variable {loaded l : List Byte} (is : loaded = l) {i n : Nat}

include is

theorem shown_byte {b : Byte} (at_ : l[i]? = some b) (inside : i < 48 := by decide) :
    stByte (stagingOf loaded) i = b := by
  rw [is, stByte_load _ _ inside, at_, Option.getD_some]

theorem shown_number {w : Nat} {x : BitVec w}
    (at_ : (List.range n).map (fun j => l[i + j]?.getD 0) = leBytes n x) (wide : w ≤ 8 * n := by decide)
    (inside : i + n ≤ 48 := by decide) :
    ((List.range n).map fun j => (stByte (stagingOf loaded) (i + j)).toNat * 256 ^ j).sum = x.toNat := by
  refine sum_leBytes x wide (Eq.trans (List.map_congr_left fun j mem => ?_) at_)
  have := List.mem_range.mp mem
  rw [is, stByte_load _ _ (by omega)]

theorem shown_small {b : Byte} {m : Nat} (at_ : l[i]? = some b) (value : b.toNat = m)
    (inside : i < 48 := by decide) :
    ((List.range 1).map fun j => (stByte (stagingOf loaded) (i + j)).toNat * 256 ^ j).sum = m := by
  simp [shown_byte is at_ inside, value]

theorem shown_flags {b : Byte} {m : Nat} (at_ : l[i]? = some b) (value : b.toNat = m)
    (inside : i < 48 := by decide) : (stByte (stagingOf loaded) i).toNat = m := by
  rw [shown_byte is at_ inside, value]

/-- Bytes that the layout does not name, inside a record. -/
theorem shown_zeros (at_ : (List.range n).map (fun j => l[i + j]?.getD 0) = List.replicate n 0)
    (inside : i + n ≤ 48 := by decide) (j : Nat) (low : i ≤ j) (high : j < i + n) :
    stByte (stagingOf loaded) j = 0 := by
  obtain ⟨k, rfl⟩ := Nat.exists_eq_add_of_le low
  have zero : l[i + k]?.getD 0 ∈ List.replicate n (0 : Byte) :=
    at_ ▸ List.mem_map.mpr ⟨k, List.mem_range.mpr (by omega), rfl⟩
  rw [is, stByte_load _ _ (by omega), List.eq_of_mem_replicate zero]

/-- Bytes behind a record. -/
theorem shown_rest (short : l.length ≤ i) (j : Nat) (low : i ≤ j) (high : j < 48) :
    stByte (stagingOf loaded) j = 0 := by
  rw [is, stByte_load _ _ high, List.getElem?_eq_none (by omega), Option.getD_none]

end Shown

theorem listBytes_some {α : Type} {l : List α} {i : Nat} {a : α} (there : l[i]? = some a) (f : α → List Byte) :
    listBytes l i f = f a := by
  simp only [listBytes, there]

theorem listBytes_none {α : Type} {l : List α} {i : Nat} (outside : l.length ≤ i) (f : α → List Byte) :
    listBytes l i f = [] := by
  simp only [listBytes, List.getElem?_eq_none outside]

theorem listBytes_table {α : Type} {n : Nat} (v : Vector α n) (i : Fin n) (f : α → List Byte) :
    listBytes v.toList i f = f v[i] :=
  listBytes_some (by simp) f

theorem listBytes_beyond_table {α : Type} {n i : Nat} (v : Vector α n) (outside : n ≤ i) (f : α → List Byte) :
    listBytes v.toList i f = [] :=
  listBytes_none (by rwa [Vector.length_toList]) f

theorem stagingOf_toList (v : Vector Byte 48) : stagingOf v.toList = v := by
  refine Vector.ext fun i inside => ?_
  have shown := stByte_load v.toList i inside
  rw [stByte_fin _ ⟨i, inside⟩] at shown
  simpa [inside] using shown

/-- No record stands at an index outside its table, and none in a table that is not one of 0 to 12. -/
theorem recordBytes_outside (s : State) {table index : Nat}
    (outside : table = 0 ∧ 0 < index ∨ table = 1 ∧ 31 < index ∨ table = 2 ∧ 63 < index ∨
      table = 3 ∧ 1 < index ∨ table = 4 ∧ 7 < index ∨ table = 5 ∧ 0 < index ∨
      table = 6 ∧ s.time.peers.length < index ∨ table = 7 ∧ s.sched.entries.length < index ∨
      table = 8 ∧ 7 < index ∨ table = 9 ∧ 7 < index ∨ table = 10 ∧ 7 < index ∨
      table = 11 ∧ 0 < index ∨ table = 12 ∧ 1 < index ∨ 12 < table) :
    s.recordBytes table index = [] := by
  have of_pred {i : Nat} (positive : 0 < i) {table : Nat} (empty : ∀ j, s.recordBytes table (j + 1) = []) :
      s.recordBytes table i = [] := by
    obtain ⟨j, rfl⟩ := Nat.exists_eq_add_of_le' positive
    exact empty j
  obtain ⟨rfl, above⟩ | ⟨rfl, above⟩ | ⟨rfl, above⟩ | ⟨rfl, above⟩ | ⟨rfl, above⟩ | ⟨rfl, above⟩ |
    ⟨rfl, above⟩ | ⟨rfl, above⟩ | ⟨rfl, above⟩ | ⟨rfl, above⟩ | ⟨rfl, above⟩ | ⟨rfl, above⟩ |
    ⟨rfl, above⟩ | above := outside
  · exact of_pred above fun _ => rfl
  · exact listBytes_beyond_table _ above _
  · exact listBytes_beyond_table _ above _
  · exact listBytes_beyond_table _ above _
  · exact listBytes_beyond_table _ above _
  · exact of_pred above fun _ => rfl
  · obtain ⟨j, rfl⟩ := Nat.exists_eq_add_of_le' (Nat.zero_lt_of_lt above)
    exact listBytes_none (Nat.le_of_lt_succ above) _
  · obtain ⟨j, rfl⟩ := Nat.exists_eq_add_of_le' (Nat.zero_lt_of_lt above)
    exact listBytes_none (Nat.le_of_lt_succ above) _
  · exact listBytes_beyond_table _ above _
  · exact listBytes_beyond_table _ above _
  · exact listBytes_beyond_table _ above _
  · exact of_pred above fun _ => rfl
  · exact listBytes_beyond_table _ above _
  · obtain ⟨k, rfl⟩ := Nat.exists_eq_add_of_le' above
    rfl

theorem exec_tableIndex {s : State} {value : Byte} (released : s.resetHeld = false) :
    exec (.tableIndex value) s = .next ((s.hostWrite 0x2A#7).writeIndex value) :=
  act_released (fun s => (s.hostWrite 0x2A#7).writeIndex value) released

theorem loadEffect_of_no_latch (s : State) {table index : Nat} (other : table ≠ 8 ∨ 7 < index) :
    s.loadEffect table index = s := by
  rw [State.loadEffect, State.readLatch]
  split
  · rw [ixOf_none (other.resolve_left fun no => no ‹_›)]
  · rfl

theorem descBytes_three (d : Option EventDesc) : ∃ a b c, descBytes d = [a, b, c] := by
  cases d <;> exact ⟨_, _, _, rfl⟩

section Flat

variable {w : Nat} (x : BitVec w)

theorem leBytes_two : leBytes 2 x = [x.extractLsb' 0 8, x.extractLsb' 8 8] := rfl

theorem leBytes_three : leBytes 3 x = [x.extractLsb' 0 8, x.extractLsb' 8 8, x.extractLsb' 16 8] := rfl

theorem leBytes_four :
    leBytes 4 x = [x.extractLsb' 0 8, x.extractLsb' 8 8, x.extractLsb' 16 8, x.extractLsb' 24 8] := rfl

theorem leBytes_six :
    leBytes 6 x =
      [x.extractLsb' 0 8, x.extractLsb' 8 8, x.extractLsb' 16 8, x.extractLsb' 24 8, x.extractLsb' 32 8,
        x.extractLsb' 40 8] := rfl

end Flat

theorem optFall_eq (e : Option Edge) : optFall e = e.any fun e => e.kind == .fall := by
  cases e with
  | none => rfl
  | some e =>
    have kind : e.kind.isFall = (e.kind == .fall) := by cases e.kind <;> rfl
    exact kind

/-- Settles O20: a view is the bytes of its record, and each field of it stands at its place. -/
theorem tableIndexLoads : Obligations.TableIndexLoads := by
  unfold Obligations.TableIndexLoads
  refine ⟨fun s value released => ⟨fun other => ?plain, fun table i names => ?latch, ?selects⟩,
    fun s => ⟨stagingOf_toList, rfl, fun r => listBytes_table .., fun i => ⟨listBytes_table .., ?armed⟩,
      fun k => listBytes_table .., fun c => listBytes_table .., rfl, ?line_time, fun k r there => ?peer, ?schedule,
      fun k e there => ?entry, fun i => ?slot, fun i => ?measurement, fun i => ?channel, ?position,
      fun k => ?comparator, fun table index outside j low high => ?outside⟩⟩
  case plain =>
    rw [exec_tableIndex released, State.writeIndex]
    exact congrArg _ (loadEffect_of_no_latch _ other)
  case latch =>
    have at_ : ixOf 8 value.toNat = some i := (congrArg (ixOf 8) names).trans (ixOf_val i)
    have table : (s.hostWrite 0x2A#7).selectedTable = 8 := table
    rw [exec_tableIndex released, State.writeIndex, table, State.loadEffect, if_pos rfl, State.readLatch, at_]
    rfl
  case selects => exact BitVec.extractLsb'_toNat ..
  case armed =>
    refine shown_flags (listBytes_table s.disp.subs i SubEntry.bytes) (b := packBits [s.disp.subs[i].armed]) ?_
      (by simp [packBits_cons, packBits_nil])
    unfold SubEntry.bytes
    cases s.disp.subs[i].filter <;> rfl
  case line_time =>
    have is : s.recordBytes 6 0 = s.time.viewBytes := rfl
    simp only [TimeUnit.viewBytes, optTime, leBytes_two, leBytes_six, List.cons_append, List.nil_append] at is
    have flags : (packBits [s.time.lastInStep, s.time.alone, s.time.prevEdge.isSome]).toNat =
        s.time.lastInStep.toNat + 2 * s.time.alone.toNat + 4 * s.time.prevEdge.isSome.toNat := by
      simp only [packBits_cons, packBits_nil, List.length_cons, List.length_nil, Nat.reduceAdd, Nat.reduceLeDiff]
      omega
    exact ⟨shown_small is rfl (natByte_toNat_mod _), shown_flags is rfl flags,
      shown_small is rfl (natByte_toNat_mod _), shown_small is rfl (natByte_toNat_mod _), shown_byte is rfl,
      shown_byte is rfl, shown_number is rfl, shown_number is rfl, shown_number is rfl, shown_rest is (by rfl)⟩
  case peer =>
    have is : s.recordBytes 6 (k + 1) = r.bytes := listBytes_some there _
    simp only [PeerRecord.bytes, leBytes_six, List.cons_append, List.nil_append] at is
    refine ⟨shown_small is rfl (BitVec.toNat_setWidth_of_le (by decide)), ?_, shown_byte is rfl,
      shown_small is rfl (natByte_toNat_mod _), shown_number is rfl, ?_, shown_rest is (by rfl)⟩
    · refine shown_flags is rfl ?_
      simp only [append_toNat, flagBit_toNat]
      cases r.offset <;> simp [PeerOffset.code] <;> omega
    · refine (shown_number is (x := r.offset.value) rfl).trans ?_
      cases r.offset <;> rfl
  case schedule =>
    have is : s.recordBytes 7 0 = [natByte s.sched.entries.length, 0, 0, 0] ++ leBytes 4 s.sched.counter := rfl
    exact ⟨shown_small is rfl (natByte_toNat_mod _), shown_zeros (n := 3) is rfl, shown_number is rfl,
      shown_rest is (by rfl)⟩
  case entry =>
    obtain ⟨a, b, c, desc⟩ := descBytes_three e.endEvent
    have is : s.recordBytes 7 (k + 1) = e.bytes := listBytes_some there _
    simp only [SchedEntry.bytes, desc, leBytes_two, leBytes_three, leBytes_four, leBytes_six, List.cons_append,
      List.nil_append] at is
    refine ⟨?_, shown_byte is rfl, shown_byte is rfl, shown_small is rfl (BitVec.toNat_setWidth_of_le (by decide)),
      shown_small is rfl ?_, shown_byte is rfl, shown_byte is rfl, shown_byte is rfl, shown_byte is rfl,
      (shown_number is (x := e.event.setWidth 16) rfl).trans (BitVec.toNat_setWidth_of_le (by decide)),
      fun absent => ?_, fun d present => ?_, shown_number is rfl, shown_number is rfl, shown_number is rfl,
      shown_number is rfl, shown_number is rfl, shown_number is rfl, shown_number is rfl, shown_rest is (by rfl)⟩
    · refine shown_flags is rfl ?_
      simp only [append_toNat, flagBit_toNat]
      simp
      omega
    · rw [natByte_toNat_mod]
      omega
    · rw [absent] at desc
      cases desc
      exact shown_zeros (n := 3) is rfl
    · rw [present] at desc
      cases desc
      refine ⟨shown_flags is rfl ?_,
        (shown_number is (x := d.event.setWidth 16) rfl).trans (BitVec.toNat_setWidth_of_le (by decide))⟩
      simp only [append_toNat, flagBit_toNat]
      simp
      omega
  case slot =>
    have is : s.recordBytes 8 i = s.meas.latches[i].bytes := listBytes_table ..
    simp only [LatchSlot.bytes, optTime, leBytes_four, leBytes_six, List.cons_append, List.nil_append] at is
    refine ⟨shown_flags is rfl ?_, shown_zeros (n := 3) is rfl, shown_number is rfl, shown_number is rfl,
      shown_rest is (by rfl)⟩
    simp only [packBits_cons, packBits_nil, List.length_cons, List.length_nil, Nat.reduceAdd, Nat.reduceLeDiff]
    omega
  case measurement =>
    have is : s.recordBytes 9 i = s.meas.slots[i].bytes := listBytes_table ..
    simp only [MeasSlot.bytes, optTime, leBytes_four, leBytes_six, List.cons_append, List.nil_append] at is
    refine ⟨shown_flags is rfl ?_, shown_zeros (n := 3) is rfl, shown_number is rfl, shown_number is rfl,
      shown_number is rfl, shown_rest is (by rfl)⟩
    rw [← optFall_eq]
    simp only [packBits_cons, packBits_nil, List.length_cons, List.length_nil, Nat.reduceAdd, Nat.reduceLeDiff]
    omega
  case channel =>
    have is : s.recordBytes 10 i = s.chans[i].statusBytes := listBytes_table ..
    simp only [Channel.statusBytes, optTime, leBytes_six, List.cons_append, List.nil_append] at is
    refine ⟨shown_flags is rfl ?_, shown_byte is rfl, shown_flags is rfl ?_, shown_byte is rfl, shown_byte is rfl,
      shown_small is rfl (natByte_toNat_mod _), shown_number is rfl, shown_rest is (by rfl)⟩
    · cases s.chans[i].cfg.direction <;> rfl
    · rw [← optFall_eq]
      simp only [packBits_cons, packBits_nil, List.length_cons, List.length_nil, Nat.reduceAdd, Nat.reduceLeDiff,
        Channel.driven]
      omega
  case position =>
    have is : s.recordBytes 11 0 = s.pos.viewBytes := rfl
    simp only [PositionUnit.viewBytes, optTime, leBytes_four, leBytes_six, List.cons_append, List.nil_append] at is
    refine ⟨shown_number is rfl, shown_number is rfl, shown_number is rfl, shown_number is rfl, shown_flags is rfl ?_,
      shown_byte is rfl, shown_byte is rfl, shown_flags is rfl ?_, shown_number is rfl, shown_number is rfl,
      shown_number is rfl, shown_rest is (by rfl)⟩
    · simp only [packBits_cons, packBits_nil, List.length_cons, List.length_nil, Nat.reduceAdd, Nat.reduceLeDiff]
      omega
    · simp only [packBits_cons, packBits_nil, List.length_cons, List.length_nil, Nat.reduceAdd, Nat.reduceLeDiff,
        PositionUnit.startTime, Option.isSome_map]
      omega
  case comparator =>
    have is : s.recordBytes 12 k = s.meas.cmpRun[k].bytes := listBytes_table ..
    refine ⟨shown_byte is rfl, shown_flags is rfl ?_, shown_rest is (by rfl)⟩
    simp only [packBits_cons, packBits_nil, List.length_nil, Nat.zero_le]
    omega
  case outside => exact shown_rest (recordBytes_outside s outside) (Nat.zero_le _) j low high

end Sys2Proof.Machine
end

section
/-! PROOF of O30, O33, O34, O37: arbitration at its samples, the drain, the median of a round, and the start and
end of a dispatch. -/

namespace Sys2Proof.Machine

/-! ### Arbitration (R114) -/

section Arbitration

variable {s : State} {f : RxFrame} {b dataBit : Nat} {pre post : List Notice} {n : Notice}

theorem handBack_marked (marked : n.inTx = true) (clear : ∀ m ∈ pre ++ post, m.inTx = false) :
    s.handBack (pre ++ n :: post) =
      if s.station.mode = .leaving ∧ n.body = .sync then pre ++ post
      else pre ++ { n with inTx := false } :: post := by
  have mark_eq : (fun m : Notice => { m with inTx := false }) =
      fun m => if m.inTx then { m with inTx := false } else m := by
    funext m
    cases mark : m.inTx
    · cases m
      simp_all
    · rfl
  rw [State.handBack, filter_marked _ marked clear, mark_eq]
  by_cases withdrawn : s.station.mode = .leaving ∧ n.body = .sync
  · rw [if_neg fun kept => (keepsNotice_iff s n).mp kept withdrawn, if_pos withdrawn, map_clear _ clear]
  · rw [if_pos ((keepsNotice_iff s n).mpr withdrawn), if_neg withdrawn, map_marked _ marked clear]

theorem exec_arbitrationLost (released : s.resetHeld = false) (due : s.lossDue dataBit = true) :
    exec (.arbitrationLost dataBit) s = .next (s.arbitrationLost dataBit) :=
  actIf_due (fun s => s.arbitrationLost dataBit) released due

theorem exec_arbitrationWon (released : s.resetHeld = false) (due : s.winDue = true) :
    exec .arbitrationWon s = .next s.arbitrationWon :=
  actIf_due State.arbitrationWon released due

end Arbitration

/-- Settles O30: the two commands come at their samples, and the queue's marked notice goes back or is withdrawn. -/
theorem arbitrationDecided : Obligations.ArbitrationDecided := by
  unfold Obligations.ArbitrationDecided
  intro s f b pre post n released rate arbitrating receiving frame queue marked clear
  have own : s.ownFrame = true := (ownFrame_iff s).mpr ⟨receiving, by simp [frame]⟩
  refine ⟨fun dataBit inside middle recessive => ?_, fun middle => ?_⟩
  · have sampled : s.sampleNow = some (dataBitSample dataBit) := sampleNow_middle rate middle
    have sent : sentLevel s.line.attemptBytes (dataBitSample dataBit) = some true := recessive
    have due : s.lossDue dataBit = true := by simp [State.lossDue, arbitrating, own, inside, sampled, sent]
    rw [exec_arbitrationLost released due, State.arbitrationLost, queue, handBack_marked marked clear,
      LineEngine.dropAttempt, LineEngine.frameAsRead, frame]
    rfl
  · have sampled : s.sampleNow = some (dataBitSample 15) := sampleNow_middle rate middle
    have due : s.winDue = true := by simp [State.winDue, arbitrating, own, sampled]
    rw [exec_arbitrationWon released due]
    rfl

/-! ### The drain (R100 to R102, R133) -/

/-- A notice of the last priority stands behind all others. -/
theorem placeNotice_last {n : Notice} (last : n.priority = 7) (q : List Notice) : placeNotice n q = q ++ [n] := by
  induction q with
  | nil => rfl
  | cons m q ih =>
    have behind : ¬n.priority.toNat < m.priority.toNat := by
      have := m.priority.isLt
      rw [last]
      exact Nat.not_lt.mpr (Nat.le_of_lt_succ this)
    rw [placeNotice, if_neg behind, ih]
    rfl

theorem leavePlaceDue_of_syncs {s : State} (leaving : s.station.mode = .leaving)
    (syncs : ∀ n ∈ s.line.txq, n.body = .sync) : s.leavePlaceDue = true := by
  have none_other : (s.line.txq.any fun n => n.isEvent || n.isLeave) = false :=
    List.any_eq_false.mpr fun n mem => by simp [Notice.isEvent, Notice.isLeave, syncs n mem]
  simp [State.leavePlaceDue, leaving, none_other]

theorem reportAll_eq (s : State) (l : List ReportBody) :
    s.reportAll l =
      { s with
        host :=
          { s.host with
            reports :=
              l.foldl (fun q b => pushReport q { body := b, time := s.time.lineTime }) s.host.reports } } := by
  induction l generalizing s with
  | nil => rfl
  | cons b l ih => exact ih (s.report b)

theorem enterConfig_eq (s : State) (cause : StateCause) :
    s.enterConfig cause =
      { s with
        station := { s.station with mode := .config, listenTimer := none, leaveTimer := none }
        line := { s.line.off with rxErrors := 0 }
        host :=
          { s.host with
            reports :=
              pushReport
                (if s.line.rxErrors = 0 then s.host.reports
                 else
                  pushReport s.host.reports { body := .rxErrors s.line.rxErrors, time := s.time.lineTime })
                { body := .stateChange .config cause, time := s.time.lineTime } } } := by
  unfold State.enterConfig State.closePeriod State.periodReports
  split <;> rfl

/-- Settles O33: of SYNC notices alone the queue has none to wait for, and the last priority goes last. -/
theorem leaveDrain : Obligations.LeaveDrain := by
  unfold Obligations.LeaveDrain
  refine ⟨fun s released leaving syncs => ?_, fun s released leaving timeout => ?_, enterConfig_eq⟩
  · refine (actIf_due State.placeLeave released (leavePlaceDue_of_syncs leaving syncs)).trans ?_
    rw [State.placeLeave, State.joinTx, placeNotice_last rfl]
    rfl
  · have due : s.leaveTimeoutDue = true := by simp [State.leaveTimeoutDue, leaving, timeout]
    refine (actIf_due State.leaveTimeout released due).trans ?_
    rw [State.leaveTimeout, reportAll_eq]
    rfl

/-! ### The median (R80) -/

theorem insertValue_eq (x : Int) (l : List Int) : insertValue x l = l.orderedInsert (· ≤ ·) x := by
  induction l with
  | nil => rfl
  | cons y l ih => rw [insertValue, ih, List.orderedInsert]

theorem ascending_eq (l : List Int) : ascending l = l.insertionSort (· ≤ ·) := by
  induction l with
  | nil => rfl
  | cons x l ih => rw [ascending, ih, insertValue_eq]; rfl

theorem ascending_perm (l : List Int) : (ascending l).Perm l := by
  rw [ascending_eq]
  exact l.perm_insertionSort _

theorem ascending_sorted (l : List Int) : (ascending l).Pairwise (· ≤ ·) := by
  rw [ascending_eq]
  exact l.pairwise_insertionSort _

theorem getElem?_ascending {l : List Int} {i : Nat} (inside : i < l.length) :
    (ascending l)[i]? = some ((ascending l)[i]?.getD 0) := by
  rw [← (ascending_perm l).length_eq] at inside
  simp [inside]

theorem roundSet_eq (l : List PeerRecord) :
    roundSet l =
      0 :: l.filterMap fun r =>
        match r.synced, r.offset with
        | true, .fresh v => some v.toInt
        | _, _ => none := by
  refine congrArg (List.cons 0) (List.filterMap_congr fun r _ => ?_)
  obtain ⟨station, stamp, seq, offset, synced, age⟩ := r
  cases synced <;> cases offset <;> rfl

/-- Settles O34: the values in order are a sorted permutation, whose middle the median names. -/
theorem medianOfRound : Obligations.MedianOfRound := by
  unfold Obligations.MedianOfRound
  refine ⟨fun l some_value => ?_, roundSet_eq, fun s released due => ⟨_, exec_syncRound released due, ?_⟩, rfl,
    fun s released => ⟨_, exec_restart released, ?_⟩,
    fun s released listening due => ⟨_, exec_listenWindowExpiry released listening due, ?_⟩⟩
  · have positive := List.length_pos_iff.mpr some_value
    refine ⟨ascending l, ascending_perm l, ascending_sorted l, fun odd => ?_, fun even => ?_⟩
    · rw [getElem?_ascending (by omega), median, if_pos odd]
    · refine ⟨_, _, getElem?_ascending (by omega), getElem?_ascending (by omega), ?_⟩
      rw [median, if_neg (by omega)]
  · rw [syncRound_time]
    rfl
  · rw [restart_time]
    rfl
  · rw [joinStep_time]
    rfl

/-! ### The dispatcher (R15) -/

/-- Settles O37: by the two conditions. -/
theorem dispatchStartsAndEnds : Obligations.DispatchStartsAndEnds := by
  unfold Obligations.DispatchStartsAndEnds
  intro s released
  refine ⟨fun o q idle queue => ?_, fun scanning behind => ?_⟩
  · have due : s.dispatchStartDue = true := by simp [State.dispatchStartDue, idle, queue]
    refine (actIf_due State.dispatchStart released due).trans ?_
    simp only [State.dispatchStart, queue, State.setDisp]
  · have due : s.dispatchCompleteDue = true := by simp [State.dispatchCompleteDue, scanning, behind]
    exact actIf_due State.endDispatch released due

end Sys2Proof.Machine
end

section
/-! PROOF of O40, O44, O48, O51: where a fired row and a derived occurrence go, a LATCH, and what a pin's transition,
a readback fault and the end of a hold-off make of a channel. -/

namespace Sys2Proof.Machine

/-! ### Sources and derived occurrences (R3, R7, R19, R20) -/

section Sources

variable (s : State)

theorem BindingRow.bound_iff (b : BindingRow) : b.bound = true ↔ b.event ≠ 0 := by simp [BindingRow.bound]

theorem fireRow_of_silent {r : Fin 32} (silent : s.disp.bindings[r].event = 0 ∨ s.isOpen = false) (stamp : LineTime)
    (v : Option Value32) : s.fireRow r stamp v = s := by
  unfold State.fireRow
  refine if_neg ?_
  rw [Bool.and_eq_true, BindingRow.bound_iff]
  rintro ⟨bound, opened⟩
  rcases silent with unbound | closed
  · exact bound unbound
  · simp [closed] at opened

theorem fireRow_of_bound {r : Fin 32} (bound : s.disp.bindings[r].event ≠ 0) (opened : s.isOpen = true)
    (stamp : LineTime) (v : Option Value32) :
    s.fireRow r stamp v =
      s.raise s.disp.bindings[r].scope (s.disp.bindings[r].priority.setWidth 3)
        { event := s.disp.bindings[r].event, stamp := stamp, origin := .row r, gen := 0
          payload := if s.disp.bindings[r].payloadFlag then v else none, restamped := false } := by
  unfold State.fireRow
  refine if_pos ?_
  rw [Bool.and_eq_true, BindingRow.bound_iff]
  exact ⟨bound, opened⟩

theorem derive_of_closed (closed : s.isOpen = false) (gen : Generation) (entry : Fin 64) (d : EventDesc)
    (o : Occurrence) : s.derive gen entry d o = s := by
  simp [State.derive, closed]

theorem derive_of_limit (opened : s.isOpen = true) {gen : Generation} (limit : gen = 3) (entry : Fin 64)
    (d : EventDesc) (o : Occurrence) :
    s.derive gen entry d o = s.report (.chainLimit d.event entry) := by
  simp [State.derive, opened, limit]

theorem derive_of_open (opened : s.isOpen = true) {gen : Generation} (below : gen ≠ 3) (entry : Fin 64)
    (d : EventDesc) (o : Occurrence) :
    s.derive gen entry d o = s.raise d.scope d.priority { o with event := d.event, gen := gen + 1 } := by
  rw [State.derive, opened, if_neg below]
  rfl

theorem fireDerived_of_unbound {r : Fin 32} (unbound : s.disp.bindings[r].event = 0) (c : Cause)
    (stamp : LineTime) (v : Option Value32) (restamped : Bool) : s.fireDerived r c stamp v restamped = s := by
  unfold State.fireDerived
  exact if_neg fun bound => (BindingRow.bound_iff _).mp bound unbound

theorem fireDerived_of_bound {r : Fin 32} (bound : s.disp.bindings[r].event ≠ 0) (c : Cause)
    (stamp : LineTime) (v : Option Value32) (restamped : Bool) :
    s.fireDerived r c stamp v restamped =
      s.derive c.gen c.entry
        { event := s.disp.bindings[r].event, scope := s.disp.bindings[r].scope
          priority := s.disp.bindings[r].priority.setWidth 3 }
        { event := s.disp.bindings[r].event, stamp := stamp, origin := .row r, gen := 0
          payload := s.disp.bindings[r].payloadOf v, restamped := restamped } := by
  unfold State.fireDerived
  exact if_pos ((BindingRow.bound_iff _).mpr bound)

end Sources

/-! ### The place of a notice (R121) -/

/-- A queue in priority order is what goes ahead of a notice and what it goes ahead of. -/
theorem placeNotice_eq_filter (n : Notice) {q : List Notice}
    (ordered : q.Pairwise fun a b => a.priority.toNat ≤ b.priority.toNat) :
    placeNotice n q =
      q.filter (fun m => decide (m.priority.toNat ≤ n.priority.toNat)) ++
        n :: q.filter (fun m => decide (n.priority.toNat < m.priority.toNat)) := by
  induction q with
  | nil => rfl
  | cons m q ih =>
    obtain ⟨first, rest⟩ := List.pairwise_cons.mp ordered
    by_cases ahead : n.priority.toNat < m.priority.toNat
    · have none_before : (m :: q).filter (fun m => decide (m.priority.toNat ≤ n.priority.toNat)) = [] :=
        List.filter_eq_nil_iff.mpr fun x mem => by
          rcases List.mem_cons.mp mem with rfl | mem
          · simpa using ahead
          · simpa using ahead.trans_le (first x mem)
      have all_behind : (m :: q).filter (fun m => decide (n.priority.toNat < m.priority.toNat)) = m :: q :=
        List.filter_eq_self.mpr fun x mem => by
          rcases List.mem_cons.mp mem with rfl | mem
          · simpa using ahead
          · simpa using ahead.trans_le (first x mem)
      rw [placeNotice, if_pos ahead, none_before, all_behind]
      rfl
    · rw [placeNotice, if_neg ahead, ih rest, List.filter_cons_of_pos (by simpa using ahead),
        List.filter_cons_of_neg (by simpa using ahead)]
      rfl

theorem sharedCount_eq (q : List Notice) : sharedCount q = q.countP fun n => n.body != .sync := by
  unfold sharedCount
  simp only [Notice.isSync_eq, bne]

/-- Settles O40: by whether the row is bound, the part open, the generation at its limit and the queue full. -/
theorem sourcesAndDerived : Obligations.SourcesAndDerived := by
  unfold Obligations.SourcesAndDerived
  refine ⟨fun s r stamp v => ⟨fun silent => fireRow_of_silent s silent stamp v,
      fun bound opened => fireRow_of_bound s bound opened stamp v⟩,
    fun s r c stamp v restamped => ⟨fun silent => ?silent, fun bound opened limit => ?limit,
      fun bound opened below => ?derived⟩,
    fun s gen entry d o => ⟨fun closed => derive_of_closed s closed .., fun opened limit => derive_of_limit s opened limit ..,
      fun opened below => derive_of_open s opened below ..⟩,
    fun s p o opened => ⟨fun room => arrive_of_room opened room o, fun full => arrive_of_full opened full o,
      fun room => ?room, fun full => ?full⟩, fun n q => placeNotice_eq_filter n⟩
  case silent =>
    by_cases unbound : s.disp.bindings[r].event = 0
    · exact fireDerived_of_unbound s unbound ..
    · rw [fireDerived_of_bound s unbound]
      exact derive_of_closed s (silent.resolve_left unbound) ..
  case limit =>
    rw [fireDerived_of_bound s bound]
    exact derive_of_limit s opened limit ..
  case derived =>
    rw [fireDerived_of_bound s bound]
    exact derive_of_open s opened below ..
  case room =>
    rw [← sharedCount_eq] at room
    exact handOver_of_room opened p o room
  case full =>
    rw [← sharedCount_eq] at full
    exact handOver_of_full opened p o full

/-! ### LATCH (R36, R175) -/

/-- Settles O44: the slot is written from the position, and the publish derives from that state. -/
theorem latchTaken : Obligations.LatchTaken := by
  unfold Obligations.LatchTaken
  refine ⟨fun s src slot publish c => ?_, fun x => ⟨rfl, rfl, rfl⟩⟩
  cases src <;> exact ⟨fun none => by subst none; rfl, fun d some => by subst some; rfl⟩

/-! ### The channel's output state (R147, R148) -/

section OutState

variable {s : State} {c : Fin 8} (released : s.resetHeld = false)

include released

theorem exec_readbackFault (due : s.chans[c].faultDue = true) :
    exec (.readbackFault c.val) s = .next (s.readbackFault c) := by
  simp only [exec, execReadbackFault, ixOf_val]
  exact actIf_due (fun s => s.readbackFault c) released due

theorem exec_holdOffExpiry (due : s.chans[c].restoreDue = true) :
    exec (.holdOffExpiry c.val) s = .next (s.holdOffExpiry c) := by
  simp only [exec, execHoldOffExpiry, ixOf_val]
  exact actIf_due (fun s => s.holdOffExpiry c) released due

end OutState

theorem Channel.faultDue_iff (ch : Channel) : ch.faultDue = true ↔ ch.out = some .enabled ∧ ch.mismatch = some 0 := by
  simp [Channel.faultDue, Channel.driven]

theorem Channel.restoreDue_iff (ch : Channel) :
    ch.restoreDue = true ↔ ch.out = some .heldOff ∧ ch.holdOff = some 0 := by
  simp [Channel.restoreDue]

theorem ChanConfig.holdOffTicks_eq (g : ChanConfig) : g.holdOffTicks = 100000 * g.holdOffMillis.toNat :=
  Nat.mul_comm ..

/-- Settles O51: a due fault holds the channel off, and a due end of the hold-off drives or disables it. -/
theorem readbackAndHoldOff : Obligations.ReadbackAndHoldOff := by
  unfold Obligations.ReadbackAndHoldOff
  intro s c released
  refine ⟨fun driven expired => ?_, fun held expired => ?_⟩
  · rw [exec_readbackFault released ((Channel.faultDue_iff _).mpr ⟨driven, expired⟩), State.readbackFault]
    have held_off : Channel.holdOffNow = fun ch =>
        { ch with
          out := some .heldOff, mismatch := none, holdOff := some (100000 * ch.cfg.holdOffMillis.toNat) } := by
      funext ch
      rw [Channel.holdOffNow, ChanConfig.holdOffTicks_eq]
    rw [held_off]
    rfl
  · rw [exec_holdOffExpiry released ((Channel.restoreDue_iff _).mpr ⟨held, expired⟩)]
    refine ⟨fun auto => ?_, fun manual => ?_⟩
    · refine congrArg _ ((if_pos auto).trans ?_)
      rw [funext Channel.enable_eq]
      rfl
    · exact congrArg _ (if_neg fun auto => Bool.false_ne_true (manual.symm.trans auto))

/-! ### A pin's transition (R139, R146) -/

section Pin

variable {s : State} {c : Fin 8} {level : Level}

theorem exec_pinTransition (released : s.resetHeld = false) (moves : s.chans[c].sensed ≠ level) :
    exec (.pinTransition c.val level) s = .next (s.pinTransition c level) := by
  simp only [exec, execPinTransition, ixOf_val, released]
  exact congrArg _ (if_neg moves)

theorem exec_pinTransition_of_same (released : s.resetHeld = false) (same : s.chans[c].sensed = level) :
    exec (.pinTransition c.val level) s = .next s := by
  simp only [exec, execPinTransition, ixOf_val, released]
  exact congrArg _ (if_pos same)

/-- The filter and the readback check on a transition. -/
theorem Channel.transition_eq (ch : Channel) (now : LineTime) (level : Level) :
    (ch.filterTransition now level).recheck =
      { ch with
        sensed := level
        cand :=
          if level = ch.filtered then none
          else
            some
              { stamp := now, length := 100 * ch.cfg.filterMicros.toNat, left := 100 * ch.cfg.filterMicros.toNat }
        mismatch :=
          if ch.out = some .enabled then
            if level = ch.lastCmd then none else some (ch.mismatch.getD (100 * ch.cfg.checkDelay.toNat))
          else ch.mismatch } := by
  have filter : ch.cfg.filterTicks = 100 * ch.cfg.filterMicros.toNat := Nat.mul_comm ..
  have check : ch.cfg.checkTicks = 100 * ch.cfg.checkDelay.toNat := Nat.mul_comm ..
  unfold Channel.filterTransition
  rw [filter]
  split <;> simp only [Channel.recheck, Channel.driven, beq_iff_eq, check] <;> split
  · split <;> rfl
  · rfl
  · split <;> rfl
  · rfl

theorem pinTransition_of_uncounted (uncounted : s.chans[c].countsAtOnce = false) (level : Level) :
    s.pinTransition c level =
      s.setChan c fun ch => (ch.filterTransition s.time.lineTime level).recheck := by
  have same : s.countedBefore c = s := if_neg fun counts => Bool.false_ne_true (uncounted.symm.trans counts)
  simp only [State.pinTransition, same]

theorem countsAtOnce_eq_false {ch : Channel} (timed : ∀ k, ch.cand = some k → k.length ≠ 0) :
    ch.countsAtOnce = false := by
  unfold Channel.countsAtOnce
  split
  · simpa using timed _ ‹_›
  · rfl

theorem countsAtOnce_of_zero {ch : Channel} {k : Candidate} (cand : ch.cand = some k) (zero : k.length = 0) :
    ch.countsAtOnce = true := by
  simp [Channel.countsAtOnce, cand, zero]

theorem dueEdge_of_expired {ch : Channel} {k : Candidate} (cand : ch.cand = some k) (expired : k.left = 0) :
    ch.dueEdge = some (ch.edgeOf k) := by
  simp [Channel.dueEdge, cand, expired]

/-- The counting of a due change accepts it in its own channel. -/
theorem countEdge_chan {e : Edge} (due : s.chans[c].dueEdge = some e) :
    (s.countEdge c).chans[c] = s.chans[c].acceptChange e := by
  have accepted (t : State) (same : t.chans[c] = s.chans[c]) :
      (t.acceptEdge c s.chans[c].dueEdge).chans[c] = s.chans[c].acceptChange e := by
    rw [due, ← same]
    simp [State.acceptEdge]
  by_cases alone : 2 ≤ c.val
  · rw [countEdge_of_two_le alone]
    simpa using accepted s rfl
  · obtain rfl | rfl : c = 0 ∨ c = 1 := by omega
    · rw [countEdge_of_pair (.inl ⟨rfl, rfl⟩)]
      simp only [State.fireEdge_frame, State.pairHanded, State.handEdges_frame]
      rw [acceptEdge_chans_of_ne (by decide)]
      exact accepted s rfl
    · rw [countEdge_of_pair (.inr ⟨rfl, rfl⟩)]
      simp only [State.fireEdge_frame, State.pairHanded, State.handEdges_frame]
      exact accepted _ (acceptEdge_chans_of_ne (by decide))

end Pin

/-- Settles O48: a transition is filtered and checked; one that finds a change due at once is that of the state in
which the change has been counted. -/
theorem pinTransitionTaken : Obligations.PinTransitionTaken := by
  unfold Obligations.PinTransitionTaken
  refine ⟨fun s c level released => ⟨exec_pinTransition_of_same released, fun moves timed => ?timed,
    fun moves k cand zero expired t counted => ?counted⟩, fun s level => rfl⟩
  case timed =>
    rw [exec_pinTransition released moves, pinTransition_of_uncounted (countsAtOnce_eq_false timed),
      show (fun ch => _) = _ from funext fun ch => Channel.transition_eq ch s.time.lineTime level]
    rfl
  case counted =>
    have at_once := countsAtOnce_of_zero cand zero
    have due := dueEdge_of_expired cand expired
    rw [exec_edgeCounted released (by rw [due]; rfl)] at counted
    cases counted
    have chan := countEdge_chan due
    have uncounted : (s.countEdge c).chans[c].countsAtOnce = false :=
      countsAtOnce_eq_false fun k there => by rw [chan] at there; cases there
    have moves' : (s.countEdge c).chans[c].sensed ≠ level := by rw [chan]; exact moves
    have before : s.countedBefore c = s.countEdge c := if_pos at_once
    have none_before : (s.countEdge c).countedBefore c = s.countEdge c :=
      if_neg fun counts => Bool.false_ne_true (uncounted.symm.trans counts)
    rw [exec_pinTransition released moves, exec_pinTransition (by simpa using released) moves', State.pinTransition,
      State.pinTransition, before, none_before]

end Sys2Proof.Machine
end

section
/-! PROOF of O41, O43: where a new entry takes its place, what a DRIVE inserts, and what a CANCEL expires, leaves and
removes. -/

namespace Sys2Proof.Machine

/-! ### The place of an entry (R45) -/

theorem isLater_eq_false_iff (t u : LineTime) : isLater t u = false ↔ (t - u).toInt ≤ 0 := by
  rw [← Bool.not_eq_true, isLater_iff, not_lt]

/-- An entry goes behind those that are not later, up to the first that is. -/
theorem placeEntry_between (e : SchedEntry) (l : List SchedEntry) :
    ∃ a b, l = a ++ b ∧ placeEntry e l = a ++ e :: b ∧ (∀ x ∈ a, (x.due - e.due).toInt ≤ 0) ∧
      ∀ x, b.head? = some x → 0 < (x.due - e.due).toInt := by
  induction l with
  | nil => exact ⟨[], [], rfl, rfl, by simp, by simp⟩
  | cons y l ih =>
    cases later : isLater y.due e.due with
    | true =>
      refine ⟨[], y :: l, rfl, if_pos later, by simp, fun x head => ?_⟩
      cases head
      exact (isLater_iff ..).mp later
    | false =>
      obtain ⟨a, b, rfl, placed, before, behind⟩ := ih
      have here : placeEntry e (y :: (a ++ b)) = y :: placeEntry e (a ++ b) := by simp [placeEntry, later]
      refine ⟨y :: a, b, rfl, by rw [here, placed]; rfl, fun x mem => ?_, behind⟩
      rcases List.mem_cons.mp mem with rfl | mem
      · exact (isLater_eq_false_iff ..).mp later
      · exact before x mem

/-! ### DRIVE (R47, R48) -/

section Drive

variable {s : State} {p : DriveParams} {c : Cause}

theorem drive_of_closed (closed : s.isOpen = false) : s.drive p c = s := by simp [State.drive, closed]

variable (opened : s.isOpen = true)

include opened

theorem drive_of_full (full : 32 ≤ s.sched.entries.length) :
    s.drive p c = s.report (.scheduleFull c.entry c.event) := by
  have full : Config.scheduleCapacity ≤ s.sched.entries.length := full
  simp [State.drive, opened, full]

variable (room : s.sched.entries.length < 32)

include room

theorem drive_of_future (future : isLater (driveDue p c) s.time.lineTime = true) :
    s.drive p c = s.stampEntry (driveEntry p c (driveDue p c) false) := by
  have room : ¬Config.scheduleCapacity ≤ s.sched.entries.length := Nat.not_le.mpr room
  simp [State.drive, opened, room, future]

theorem drive_of_reached (reached : isLater (driveDue p c) s.time.lineTime = false) :
    s.drive p c = s.insertLate p c := by
  have room : ¬Config.scheduleCapacity ≤ s.sched.entries.length := Nat.not_le.mpr room
  simp [State.drive, opened, room, reached]

end Drive

theorem satTicks_toNat (x : LineTime) :
    satTicks x.toNat = if x.toNat < 2 ^ 32 then x.setWidth 32 else 0xFFFFFFFF := by
  unfold satTicks
  by_cases small : x.toNat < 2 ^ 32
  · rw [if_neg (Nat.not_le.mpr small), if_pos small]
    apply BitVec.eq_of_toNat_eq
    rw [BitVec.toNat_ofNat, BitVec.toNat_setWidth]
  · rw [if_pos (Nat.not_lt.mp small), if_neg small]
    rfl

/-- A late insertion is the expiry of the entry as the head, at the line time of the insertion. -/
theorem insertLate_eq_expiry {s : State} {p : DriveParams} {c : Cause} (released : s.resetHeld = false) :
    exec .scheduleExpiry
        (({ s with
          sched :=
            { entries := { driveEntry p c s.time.lineTime true with seq := s.sched.counter } :: s.sched.entries
              counter := s.sched.counter + 1 } } : State).report
          (.actionLate (satTicks (s.time.lineTime - driveDue p c).toNat) c.entry)) =
      .next (s.insertLate p c) := by
  refine actIf_due State.scheduleExpiry released ?_
  exact scheduleDue_of_head (e := { driveEntry p c s.time.lineTime true with seq := s.sched.counter }) rfl
    (by simp [driveEntry])

/-- Settles O41: by what the schedule asks of a DRIVE in its order, and by the place an entry takes. -/
theorem driveTaken : Obligations.DriveTaken := by
  unfold Obligations.DriveTaken
  refine ⟨fun s p c => ⟨drive_of_closed, drive_of_full, fun opened room future => ?_,
    fun opened room reached released => ?_⟩, placeEntry_between⟩
  · exact drive_of_future opened room ((isLater_iff ..).mpr future)
  · have reached : isLater (driveDue p c) s.time.lineTime = false := (isLater_eq_false_iff ..).mpr reached
    rw [request_drive, drive_of_reached opened room reached, ← insertLate_eq_expiry released, satTicks_toNat]
    rfl

/-! ### What a CANCEL lets expire before it (R57, log 35) -/

/-- One choice before a CANCEL of a tag: the end of the waiting, an entry left to the CANCEL, or an expiry. -/
def BeforeCancel (tag : BitVec 4) (a b : State × List SchedEntry) : Prop :=
  b = (a.1.useChoices 1, a.2) ∨
    ∃ (e : SchedEntry) (l : List SchedEntry),
      a.1.sched.entries = e :: l ∧ (e.due - a.1.time.lineTime).toInt ≤ 0 ∧
        (e.tag = tag ∧ b = ((a.1.useChoices 1).setSched { a.1.sched with entries := l }, a.2 ++ [e]) ∨
          exec .scheduleExpiry (a.1.useChoices 1) = .next b.1 ∧ b.2 = a.2)

theorem expireBefore_reaches (tag : BitVec 4) (n : Nat) (left : List SchedEntry) {s : State}
    (released : s.resetHeld = false) :
    ∃ u left', Relation.ReflTransGen (BeforeCancel tag) (s, left) (u, left') ∧
      State.expireBefore tag n left s = u.putBack left' := by
  induction n generalizing left s with
  | zero => exact ⟨s, left, .refl, rfl⟩
  | succ n ih =>
    cases entries : s.sched.entries with
    | nil => exact ⟨s, left, .refl, expireBefore_end entries⟩
    | cons e l =>
      cases due : isLater e.due s.time.lineTime with
      | true => exact ⟨s, left, .refl, expireBefore_notDue entries due⟩
      | false =>
        have reached := (isLater_eq_false_iff ..).mp due
        have expires : Relation.ReflTransGen (BeforeCancel tag) (s, left) ((s.useChoices 1).scheduleExpiry, left) :=
          .single (.inr ⟨e, l, entries, reached,
            .inr ⟨actIf_due State.scheduleExpiry released (scheduleDue_of_head (s := s.useChoices 1) entries reached), rfl⟩⟩)
        simp only [State.expireBefore, entries, due]
        split
        · exact absurd ‹_› (by simp)
        · split
          · exact ⟨_, _, .single (.inl rfl), rfl⟩
          · split
            · rename_i choice
              obtain ⟨u, left', path, is⟩ := ih (left ++ [e])
                (s := (s.useChoices 1).setSched { s.sched with entries := l }) released
              exact ⟨u, left', .head (.inr ⟨e, l, entries, reached, .inl ⟨choice.2, rfl⟩⟩) path, is⟩
            · obtain ⟨u, left', path, is⟩ := ih left (s := (s.useChoices 1).scheduleExpiry) (by simpa using released)
              exact ⟨u, left', expires.trans path, is⟩

/-! ### What a CANCEL removes (R55, R56) -/

/-- A pending OFF phase applied, entry after entry. -/
def State.applyOffs (s : State) (l : List SchedEntry) : State :=
  l.foldl (fun t e => t.updateOutputs e.mask (~~~e.onLevels)) s

/-- The suppressed count that CANCELLED carries, by the state at the CANCEL. -/
def SchedEntry.cancelledCount (e : SchedEntry) (t : State) : Byte :=
  if e.phase = .off ∧ t.anyUndriven e.mask = true ∧ e.suppressed ≠ 255#8 then e.suppressed + 1 else e.suppressed

/-- The CANCELLED reports of removed entries, by the state at the CANCEL. -/
def cancelledReports (t : State) (l : List SchedEntry) (q : List Report) : List Report :=
  l.foldl
    (fun q e =>
      pushReport q
        { body := .cancelled e.tag e.originEntry e.innerRem e.outerRem (e.cancelledCount t)
          time := t.time.lineTime })
    q

theorem applyOffs_chans {s t : State} (same : s.chans = t.chans) (l : List SchedEntry) :
    (s.applyOffs l).chans = (t.applyOffs l).chans := by
  induction l generalizing s t with
  | nil => exact same
  | cons e l ih => exact ih (by simp only [State.updateOutputs, same, State.setChans_chans])

theorem anyUndriven_updateOutputs (s : State) (mask levels other : Byte) :
    (s.updateOutputs mask levels).anyUndriven other = s.anyUndriven other := by
  have driven (c : Fin 8) : (s.updateOutputs mask levels).chans[c].driven = s.chans[c].driven := by
    rw [getElem_updateOutputs]
    split
    · rw [Channel.takeLevel_eq]
      rfl
    · rfl
  rw [Bool.eq_iff_iff, anyUndriven_iff, anyUndriven_iff]
  simp only [driven]

theorem anyUndriven_applyOffs (l : List SchedEntry) (s : State) (mask : Byte) :
    (s.applyOffs l).anyUndriven mask = s.anyUndriven mask := by
  induction l generalizing s with
  | nil => rfl
  | cons e l ih => exact (ih _).trans (anyUndriven_updateOutputs ..)

theorem afterPhase_cancelReport {s t : State} {e : SchedEntry} (off : e.phase = .off)
    (same : s.anyUndriven e.mask = t.anyUndriven e.mask) :
    (e.afterPhase s).cancelReport =
      .cancelled e.tag e.originEntry e.innerRem e.outerRem (e.cancelledCount t) := by
  unfold SchedEntry.afterPhase SchedEntry.countSuppressed SchedEntry.cancelledCount
  rw [same]
  by_cases counts : t.anyUndriven e.mask = true ∧ e.suppressed ≠ 255#8
  · rw [if_pos (by simpa using counts), if_pos ⟨off, counts⟩]
    rfl
  · rw [if_neg (by simpa using counts), if_neg fun all => counts all.2]
    rfl

theorem cancelOne_eq {s t : State} {e : SchedEntry} (same : s.anyUndriven e.mask = t.anyUndriven e.mask)
    (now : s.time.lineTime = t.time.lineTime) :
    s.cancelOne e =
      { s with
        chans := (s.applyOffs ([e].filter fun e => e.phase == .off)).chans
        host := { s.host with reports := cancelledReports t [e] s.host.reports } } := by
  unfold State.cancelOne
  split
  · rename_i on
    have count : e.cancelledCount t = e.suppressed := if_neg (by simp [on])
    rw [SchedEntry.cancelReport, ← count, cancelledReports, ← now]
    simp [on, State.applyOffs, State.report, State.reportAt, State.setHost]
  · rename_i off
    rw [afterPhase_cancelReport off same, cancelledReports, ← now]
    simp [off, State.applyOffs, State.applyPhase, SchedEntry.levels, State.report, State.reportAt, State.setHost, State.updateOutputs, State.setChans]

theorem cancelAll_eq (tag : BitVec 4) (l : List SchedEntry) {s t : State}
    (same : ∀ mask, s.anyUndriven mask = t.anyUndriven mask) (now : s.time.lineTime = t.time.lineTime) :
    State.cancelAll tag l s =
      { s with
        chans := (s.applyOffs ((l.filter fun e => e.tag == tag).filter fun e => e.phase == .off)).chans
        host :=
          { s.host with reports := cancelledReports t (l.filter fun e => e.tag == tag) s.host.reports } } := by
  induction l generalizing s with
  | nil => rfl
  | cons e l ih =>
    rw [State.cancelAll]
    by_cases tagged : e.tag = tag
    · have one := cancelOne_eq (e := e) (same e.mask) now
      have rest := ih (s := s.cancelOne e)
        (fun mask => by rw [one, ← same mask]; exact anyUndriven_applyOffs _ s mask) (by rw [one]; exact now)
      have chans : (s.cancelOne e).chans = (s.applyOffs ([e].filter fun e => e.phase == .off)).chans := by rw [one]
      have tags : (e :: l).filter (fun e => e.tag == tag) = e :: l.filter fun e => e.tag == tag :=
        List.filter_cons_of_pos (by simpa using tagged)
      have offs (l' : List SchedEntry) : (e :: l').filter (fun e => e.phase == .off) =
          ([e].filter fun e => e.phase == .off) ++ l'.filter fun e => e.phase == .off :=
        List.filter_append [e] l'
      have joined (a b : List SchedEntry) : s.applyOffs (a ++ b) = (s.applyOffs a).applyOffs b :=
        List.foldl_append ..
      rw [if_pos tagged, rest, applyOffs_chans chans, one, tags, offs (l.filter fun e => e.tag == tag), joined]
      rfl
    · rw [if_neg tagged, ih same now, List.filter_cons_of_neg (by simpa using tagged)]

theorem removeTagged_eq (t : State) (tag : BitVec 4) :
    t.removeTagged tag =
      { t with
        sched := { t.sched with entries := t.sched.entries.filter fun e => e.tag != tag }
        chans := (t.applyOffs ((t.sched.entries.filter fun e => e.tag == tag).filter fun e => e.phase == .off)).chans
        host :=
          { t.host with
            reports := cancelledReports t (t.sched.entries.filter fun e => e.tag == tag) t.host.reports } } := by
  rw [State.removeTagged, cancelAll_eq tag _ (fun _ => rfl) rfl]
  rfl

/-- Settles O43: what is due before the CANCEL expires or is left to it, and then the entries of its tag are
removed, head first. -/
theorem cancelTaken : Obligations.CancelTaken := by
  unfold Obligations.CancelTaken
  intro s tag c
  refine ⟨fun closed => by simp [request_cancel, State.cancel, closed], fun opened released => ?_⟩
  have cancels {u : State} {left : List SchedEntry}
      (before : State.expireBefore tag Config.cancelLookahead [] s = u.putBack left) :
      s.request (.cancel tag) c = (u.putBack left).removeTagged tag := by
    rw [request_cancel, State.cancel, opened, before]
    rfl
  by_cases waits : ∃ e, s.sched.entries.head? = some e ∧ 0 < (e.due - s.time.lineTime).toInt
  · obtain ⟨e, head, later⟩ := waits
    obtain ⟨l, entries⟩ := List.head?_eq_some_iff.mp head
    exact ⟨s, [], .refl, fun _ _ _ => ⟨rfl, rfl⟩,
      (cancels (expireBefore_notDue entries ((isLater_iff ..).mpr later))).trans (removeTagged_eq ..)⟩
  · obtain ⟨u, left, path, before⟩ := expireBefore_reaches tag Config.cancelLookahead [] released
    exact ⟨u, left, path, fun e head later => absurd ⟨e, head, later⟩ waits,
      (cancels before).trans (removeTagged_eq ..)⟩

end Sys2Proof.Machine
end

section
/-! PROOF of O52: the encoder reader's requests, completions and recovery, and what the bits of a word spell. -/

namespace Sys2Proof.Machine

/-! ### CAPTURE (R161) -/

section Capture

variable {s : State} (c : Cause)

theorem captureRequest_of_closed (closed : s.isOpen = false) : s.captureRequest c = s := by
  simp [State.captureRequest, closed]

variable (opened : s.isOpen = true)

include opened

theorem captureRequest_of_idle (idle : s.pos.reader = .idle) :
    s.captureRequest c =
      s.setPos
        { s.pos with
          reader := .shifting
          record := some { enc := s.pos.cfg.enc, start := s.time.lineTime, cause := c }
          shiftWord := [], shiftLeft := some s.pos.cfg.enc.shiftTicks } := by
  simp [State.captureRequest, opened, idle]

theorem captureRequest_of_busy (busy : s.pos.reader ≠ .idle) :
    s.captureRequest c = s.report (.captureOverrun s.pos.reader c.entry) := by
  unfold State.captureRequest
  rw [opened]
  cases reader : s.pos.reader with
  | idle => exact absurd reader busy
  | shifting => rfl
  | recovery => rfl

end Capture

/-! ### The completion (R163) -/

theorem EncConfig.recoveryTicks_eq (g : EncConfig) : g.recoveryTicks = 100 * g.recoveryMicros.toNat :=
  Nat.mul_comm ..

theorem EncConfig.passes_iff (g : EncConfig) (samples : List Level) :
    g.passes samples = true ↔
      g.check = .none ∨ g.check = .high ∧ samples[g.totalBits.toNat]? = some true ∨
        g.check = .low ∧ samples[g.totalBits.toNat]? = some false := by
  unfold EncConfig.passes
  cases samples[g.totalBits.toNat]? <;> cases g.check <;> simp

section Complete

variable {s : State} {r : ReadRecord}

theorem exec_encoderReadComplete (released : s.resetHeld = false) (due : s.readDue = true)
    (record : s.pos.record = some r) :
    exec (.encoderReadComplete s.pos.shiftWord) s = .next (s.readComplete r s.pos.shiftWord) := by
  have named : (s.readDue && s.pos.shiftWord == s.pos.shiftWord) = true := by simp [due]
  refine (actIf_due State.endShifting released named).trans ?_
  rw [State.endShifting, record]

theorem exec_encoderReadComplete_other {other : List Level} (differs : other ≠ s.pos.shiftWord) :
    exec (.encoderReadComplete other) s = .next s :=
  actIf_not_due s State.endShifting (by simp [differs])

/-- The reader in RECOVERY, its shift word as sampled. -/
theorem toRecovery_shiftWord (p : PositionUnit) (g : EncConfig) :
    p.toRecovery g p.shiftWord =
      { p with
        reader := .recovery, shiftLeft := none, recovery := some (100 * g.recoveryMicros.toNat) } := by
  rw [PositionUnit.toRecovery, EncConfig.recoveryTicks_eq]

end Complete

/-! ### The bits of a word (R163) -/

theorem bitsValue_append (l : List Level) (b : Level) : bitsValue (l ++ [b]) = 2 * bitsValue l + b.toNat :=
  List.foldl_append ..

theorem grayDecode_length (above : Level) (l : List Level) : (grayDecode above l).length = l.length := by
  induction l generalizing above with
  | nil => rfl
  | cons b l ih => exact congrArg (· + 1) (ih _)

theorem grayDecode_head (l : List Level) : (grayDecode false l).head? = l.head? := by
  cases l with
  | nil => rfl
  | cons b l => simp [grayDecode]

/-- Each bit behind the first is combined with the binary bit just above it. -/
theorem grayDecode_next {top above b : Level} {l : List Level} {i : Nat}
    (here : (grayDecode top l)[i]? = some above) (next : l[i + 1]? = some b) :
    (grayDecode top l)[i + 1]? = some (b ^^ above) := by
  induction l generalizing top i with
  | nil => cases next
  | cons x l ih =>
    cases i with
    | zero =>
      cases l with
      | nil => cases next
      | cons y l =>
        cases here
        cases next
        rfl
    | succ i => exact ih here next

/-- Settles O52: the reader's state says what becomes of a CAPTURE, the check what becomes of a completion. -/
theorem encoderReads : Obligations.EncoderReads := by
  unfold Obligations.EncoderReads
  refine ⟨fun s => ⟨fun c => ⟨captureRequest_of_closed c, fun opened idle => ?idle,
      captureRequest_of_busy c⟩, fun released r shifting record ended => ?complete,
      fun released r recovering expired record => ?recovered⟩, rfl, bitsValue_append,
    fun l => ⟨grayDecode_length false l, grayDecode_head l, fun i above b => grayDecode_next⟩⟩
  case idle =>
    exact captureRequest_of_idle c opened idle
  case complete =>
    have due : s.readDue = true := by simp [State.readDue, shifting, record, ended]
    refine ⟨readDue_mem due, fun other => exec_encoderReadComplete_other, fun passed => ?_, fun failed => ?_⟩
    · rw [exec_encoderReadComplete released due record, State.readComplete, toRecovery_shiftWord]
      exact congrArg _ (if_pos ((EncConfig.passes_iff ..).mpr passed))
    · rw [exec_encoderReadComplete released due record, State.readComplete, toRecovery_shiftWord]
      exact congrArg _ (if_neg fun passes => failed ((EncConfig.passes_iff ..).mp passes))
  case recovered =>
    have due : s.recoveryDue = true := by simp [State.recoveryDue, recovering, expired]
    refine (actIf_due State.recoveryExpiry released due).trans ?_
    rw [State.recoveryExpiry, record]
    rfl

end Sys2Proof.Machine
end

section
/-! PROOF of O53: the number that sent bytes spell, when a frame is complete, and what each kind of notice is read
as. -/

namespace Sys2Proof.Machine

/-! ### Numbers, most significant byte first (R193) -/

theorem beBytes_length {w : Nat} (n : Nat) (x : BitVec w) : (beBytes n x).length = n := by
  simp [beBytes, leBytes]

theorem beValue_append (l : List Byte) (a : Nat) :
    l.foldl (fun a b => a * 256 + b.toNat) a = a * 256 ^ l.length + beValue l := by
  induction l generalizing a with
  | nil => simp [beValue]
  | cons b l ih =>
    rw [beValue, List.foldl_cons, List.foldl_cons, ih, ih (0 * 256 + b.toNat), List.length_cons]
    ring

theorem beBytes_succ {w : Nat} (n : Nat) (x : BitVec w) :
    beBytes (n + 1) x = x.extractLsb' (8 * n) 8 :: beBytes n x := by
  simp [beBytes, leBytes, List.range_succ]

theorem beValue_beBytes {w : Nat} (n : Nat) (x : BitVec w) : beValue (beBytes n x) = x.toNat % 256 ^ n := by
  induction n with
  | zero => simp [beBytes, leBytes, beValue, Nat.mod_one]
  | succ n ih =>
    rw [beBytes_succ, beValue, List.foldl_cons, beValue_append, ih, beBytes_length, extractLsb'_toNat,
      Nat.mod_pow_succ]
    ring

/-- A field that holds a value's bytes spells it. -/
theorem frameField_of_bytes {l : List Byte} {i n w : Nat} {x : BitVec w} (bytes : (l.drop i).take n = beBytes n x)
    (wide : w ≤ 8 * n := by decide) : frameField l i n w = x := by
  have bound : x.toNat < 256 ^ n :=
    calc x.toNat < 2 ^ w := x.isLt
      _ ≤ 2 ^ (8 * n) := Nat.pow_le_pow_right (by decide) wide
      _ = 256 ^ n := Nat.pow_mul 2 8 n
  rw [frameField, bytes, beValue_beBytes, Nat.mod_eq_of_lt bound, BitVec.ofNat_toNat, BitVec.setWidth_eq]

theorem frameField_ahead {l post : List Byte} {i n w : Nat} {x : BitVec w} (at_ : l.drop i = beBytes n x ++ post)
    (wide : w ≤ 8 * n := by decide) : frameField l i n w = x :=
  frameField_of_bytes (by rw [at_, List.take_left' (beBytes_length n x)]) wide

/-! ### A frame is complete at its length (R131) -/

/-- A character as R109 frames it. -/
def framed (b : Byte) : CharSample := { start := false, data := b, stop := true }

theorem readChars_of_complete {rest : List Byte} (some_left : rest ≠ []) {got : List Byte}
    (complete : frameComplete (got ++ rest) = true)
    (not_before : ∀ k, 0 < k → k < rest.length → frameComplete (got ++ rest.take k) = false) :
    readChars (rest.map framed) got = (got ++ rest, .complete) := by
  induction rest generalizing got with
  | nil => exact absurd rfl some_left
  | cons b rest ih =>
    have sound : charFramingError (framed b) = false := rfl
    rw [List.map_cons, readChars, if_neg (by simp [sound])]
    change (if frameComplete (got ++ [b]) = true then (got ++ [b], FrameEnding.complete) else _) = _
    cases rest with
    | nil => rw [if_pos complete]
    | cons c rest =>
      have open_ := not_before 1 (by decide) (by simp)
      have joined (l : List Byte) : got ++ b :: l = (got ++ [b]) ++ l := by simp
      rw [if_neg (by simpa using open_), joined]
      refine ih (got := got ++ [b]) (by simp) (by rwa [← joined]) fun k low high => ?_
      rw [← joined]
      exact not_before (k + 1) (by omega) (Nat.succ_lt_succ high)

section Prefix

variable {l : List Byte} {k : Nat}

theorem frameByte_take {i : Nat} (inside : i < k) : frameByte (l.take k) i = frameByte l i := by
  rw [frameByte, frameByte, List.getElem?_take_of_lt inside]

theorem started_of_expected {m : Nat} (expected : expectedLength l = some m) :
    2 ≤ l.length ∧ malformed l = false := by
  unfold expectedLength at expected
  split at expected
  · cases expected
  · rename_i long
    simp only [Bool.or_eq_true, decide_eq_true_iff, not_or, Bool.not_eq_true] at long
    exact ⟨Nat.not_lt.mp long.1, long.2⟩

theorem expectedLength_of_sound (started : 2 ≤ l.length) (sound : malformed l = false) :
    expectedLength l =
      if frameKind l = 0 then some (if frameOpt l then 11 else 5)
      else if frameKind l = 1 then some (if frameOpt l then 16 else 12)
      else if frameKind l = 2 then some 5
      else none := by
  rw [expectedLength, if_neg (by simp only [sound, Bool.or_false, decide_eq_true_iff]; omega)]

/-- The length of a frame is fixed by its first two bytes. -/
theorem expectedLength_of_prefix {m : Nat} (sound : malformed l = false)
    (expected : expectedLength (l.take k) = some m) : expectedLength l = some m := by
  obtain ⟨started, read⟩ := started_of_expected expected
  have behind : 2 ≤ k ∧ 2 ≤ l.length := by simpa using started
  have kind : frameKind (l.take k) = frameKind l := by rw [frameKind, frameKind, frameByte_take (by omega)]
  have opt : frameOpt (l.take k) = frameOpt l := by rw [frameOpt, frameOpt, frameByte_take (by omega)]
  rw [← expected, expectedLength_of_sound behind.2 sound, expectedLength_of_sound started read, kind, opt]

theorem readChars_of_expected (started : l ≠ []) (sound : malformed l = false)
    (expected : expectedLength l = some l.length) : readChars (l.map framed) [] = (l, .complete) := by
  refine readChars_of_complete started (by simp [frameComplete, expected]) fun k low high => ?_
  rw [List.nil_append, Bool.eq_false_iff]
  intro complete
  have early : expectedLength (l.take k) = some (l.take k).length := by simpa [frameComplete] using complete
  have same := (expectedLength_of_prefix sound early).symm.trans expected
  simp at same
  omega

end Prefix

/-! ### A frame with its CRC (R132, R194) -/

theorem withCrc_length (body : List Byte) : (withCrc body).length = body.length + 2 := by
  simp [withCrc, beBytes_length]

theorem crcMatches_withCrc (body : List Byte) : crcMatches (withCrc body) = true := by
  have taken : (withCrc body).take body.length = body := List.take_left
  have field : frameField (withCrc body) body.length 2 16 = crc16 body :=
    frameField_of_bytes (by rw [withCrc, List.drop_left, List.take_of_length_le (by simp [beBytes_length])])
  rw [crcMatches, withCrc_length, Nat.add_sub_cancel, taken, field, beq_self_eq_true]

theorem notice_read {body : List Byte} {got : Received} (sound : malformed (withCrc body) = false)
    (expected : expectedLength (withCrc body) = some (body.length + 2)) (named : eventZero (withCrc body) = false)
    (parsed : parseFrame (withCrc body) = some got) :
    let r := readChars ((withCrc body).map fun b => { start := false, data := b, stop := true }) []
    r = (withCrc body, .complete) ∧ validNotice r.1 r.2 = some got := by
  have read : readChars ((withCrc body).map framed) [] = (withCrc body, .complete) :=
    readChars_of_expected (List.ne_nil_of_length_pos (by rw [withCrc_length]; omega)) sound
      (by rw [expected, withCrc_length])
  refine ⟨read, ?_⟩
  change validNotice (readChars ((withCrc body).map framed) []).1 (readChars ((withCrc body).map framed) []).2 = _
  rw [read, validNotice, if_pos ⟨rfl, crcMatches_withCrc body, by simp [named]⟩, parsed]

/-! ### The first two bytes (R193) -/

theorem headByte0_kind (p : Priority) (kind : BitVec 2) : (headByte0 p kind).extractLsb' 3 2 = kind := by
  apply BitVec.eq_of_toNat_eq
  rw [BitVec.extractLsb'_toNat, headByte0, append_toNat, append_toNat, Nat.shiftRight_eq_div_pow]
  have := kind.isLt
  simp
  omega

theorem headByte0_zeros (p : Priority) (kind : BitVec 2) : (headByte0 p kind).extractLsb' 0 3 = 0 := by
  apply BitVec.eq_of_toNat_eq
  rw [BitVec.extractLsb'_toNat, headByte0, append_toNat, append_toNat, Nat.shiftRight_eq_div_pow]
  simp

section Byte1

variable (n : StationNo) (synced opt : Bool)

theorem headByte1_toNat : (headByte1 n synced opt).toNat = n.toNat * 4 + 2 * synced.toNat + opt.toNat := by
  rw [headByte1, append_toNat, append_toNat, flagBit_toNat, flagBit_toNat]
  omega

theorem headByte1_station : (headByte1 n synced opt).extractLsb' 2 6 = n := by
  apply BitVec.eq_of_toNat_eq
  rw [BitVec.extractLsb'_toNat, headByte1_toNat, Nat.shiftRight_eq_div_pow]
  have := n.isLt
  have := synced.toNat_lt
  have := opt.toNat_lt
  omega

theorem headByte1_synced : (headByte1 n synced opt).getLsbD 1 = synced := by
  rw [headByte1, BitVec.getLsbD_append, BitVec.getLsbD_append]
  cases synced <;> rfl

theorem headByte1_opt : (headByte1 n synced opt).getLsbD 0 = opt := by
  rw [headByte1, BitVec.getLsbD_append]
  cases opt <;> rfl

end Byte1

/-! ### The three kinds (R85, R129, R130, R193) -/

section Frame

variable {p : Priority} {kind : BitVec 2} {n : StationNo} {synced opt : Bool} {rest : List Byte}

/-- The bytes of a frame that begins with these two head bytes. -/
abbrev headed (p : Priority) (kind : BitVec 2) (n : StationNo) (synced opt : Bool) (rest : List Byte) : List Byte :=
  headByte0 p kind :: headByte1 n synced opt :: rest

theorem frameKind_headed : frameKind (headed p kind n synced opt rest) = kind := headByte0_kind p kind

theorem frameStation_headed : frameStation (headed p kind n synced opt rest) = n := headByte1_station ..

theorem frameSynced_headed : frameSynced (headed p kind n synced opt rest) = synced := headByte1_synced ..

theorem frameOpt_headed : frameOpt (headed p kind n synced opt rest) = opt := headByte1_opt ..

theorem malformed_headed (known : kind ≠ 3) (leave : kind = 2 → opt = false)
    (event : kind = 1 → 2 ≤ rest.length → (frameByte (headed p kind n synced opt rest) 3).extractLsb' 0 2 = 0) :
    malformed (headed p kind n synced opt rest) = false := by
  have zeros : (frameByte (headed p kind n synced opt rest) 0).extractLsb' 0 3 = 0 := headByte0_zeros p kind
  rw [malformed, zeros, frameKind_headed, frameOpt_headed, Bool.eq_false_iff]
  intro bad
  simp only [bne_self_eq_false, Bool.false_or, Bool.or_eq_true, Bool.and_eq_true, beq_iff_eq, decide_eq_true_iff,
    bne_iff_ne] at bad
  obtain (⟨-, none⟩ | ⟨⟨-, two⟩, has⟩) | ⟨⟨long, one⟩, bits⟩ := bad
  · exact known none
  · exact Bool.false_ne_true ((leave two).symm.trans has)
  · exact bits (event one (by simpa using long))

end Frame

/-- A notice as sent, its characters as R109 frames them, is read complete and as it was sent. -/
abbrev ReadAs (sent : List Byte) (got : Received) : Prop :=
  let r := readChars (sent.map fun b => { start := false, data := b, stop := true }) []
  r = (sent, .complete) ∧ validNotice r.1 r.2 = some got

theorem sync_read (n : StationNo) (synced : Bool) (q : Byte) (prev : Option LineTime) :
    ReadAs (withCrc (syncBytes n synced q prev)) (.sync n synced q prev) := by
  have is : withCrc (syncBytes n synced q prev) = headed 0 0 n synced prev.isSome
      (q :: (timeBytes prev ++ beBytes 2 (crc16 (syncBytes n synced q prev)))) := rfl
  have sound : malformed (withCrc (syncBytes n synced q prev)) = false := by
    rw [is]
    exact malformed_headed (by decide) nofun nofun
  have prev_read : (if prev.isSome then some (frameField (withCrc (syncBytes n synced q prev)) 3 6 48) else none) = prev := by
    cases prev with
    | none => rfl
    | some t => exact congrArg some (frameField_ahead rfl)
  refine notice_read sound ?_ ?_ ?_
  · rw [expectedLength_of_sound (by rw [is]; simp) sound, is, frameKind_headed, frameOpt_headed]
    cases prev <;> rfl
  · rw [eventZero, is, frameKind_headed]
    rfl
  · rw [parseFrame, is, frameKind_headed, frameOpt_headed, frameStation_headed, frameSynced_headed, ← is, prev_read]
    rfl

theorem frameEvent_sent (event : EventNo) (gen : Generation) :
    event.extractLsb' 4 8 ++ (event.extractLsb' 0 4 ++ gen ++ 0#2 : BitVec 8).extractLsb' 4 4 = event := by
  apply BitVec.eq_of_toNat_eq
  have := event.isLt
  have := gen.isLt
  simp only [append_toNat, BitVec.extractLsb'_toNat, Nat.shiftRight_eq_div_pow, BitVec.toNat_ofNat]
  omega

theorem frameGen_sent (event : EventNo) (gen : Generation) :
    (event.extractLsb' 0 4 ++ gen ++ 0#2 : BitVec 8).extractLsb' 2 2 = gen := by
  apply BitVec.eq_of_toNat_eq
  have := gen.isLt
  simp only [append_toNat, BitVec.extractLsb'_toNat, Nat.shiftRight_eq_div_pow, BitVec.toNat_ofNat]
  omega

theorem frameZeros_sent (event : EventNo) (gen : Generation) :
    (event.extractLsb' 0 4 ++ gen ++ 0#2 : BitVec 8).extractLsb' 0 2 = 0#2 := by
  apply BitVec.eq_of_toNat_eq
  simp only [append_toNat, BitVec.extractLsb'_toNat, Nat.shiftRight_eq_div_pow, BitVec.toNat_ofNat]
  omega

theorem event_read (p : Priority) (n : StationNo) (synced : Bool) (o : Occurrence) (named : o.event ≠ 0) :
    ReadAs (withCrc (eventBytes p n synced o)) (.event n synced o.event o.gen o.stamp o.payload) := by
  have is : withCrc (eventBytes p n synced o) = headed p 1 n synced o.payload.isSome
      (o.event.extractLsb' 4 8 :: (o.event.extractLsb' 0 4 ++ o.gen ++ 0#2 : BitVec 8) ::
        ((beBytes 6 o.stamp ++ payloadBytes o.payload) ++ beBytes 2 (crc16 (eventBytes p n synced o)))) := rfl
  have sound : malformed (withCrc (eventBytes p n synced o)) = false := by
    rw [is]
    exact malformed_headed (by decide) nofun fun _ _ => frameZeros_sent o.event o.gen
  have event : frameEvent (withCrc (eventBytes p n synced o)) = o.event := frameEvent_sent o.event o.gen
  have stamp : frameField (withCrc (eventBytes p n synced o)) 4 6 48 = o.stamp :=
    frameField_ahead (List.append_assoc ..)
  have payload :
      (if o.payload.isSome then some (frameField (withCrc (eventBytes p n synced o)) 10 4 32) else none) =
        o.payload := by
    have behind : (withCrc (eventBytes p n synced o)).drop 10 =
        payloadBytes o.payload ++ beBytes 2 (crc16 (eventBytes p n synced o)) := by
      rw [is]
      exact (congrArg _ (List.append_assoc ..)).trans (List.drop_left' (beBytes_length 6 o.stamp))
    cases carried : o.payload with
    | none => rfl
    | some v => exact congrArg some (frameField_ahead (by rw [behind, carried]; rfl))
  have gen : (frameByte (withCrc (eventBytes p n synced o)) 3).extractLsb' 2 2 = o.gen := frameGen_sent o.event o.gen
  refine notice_read sound ?_ ?_ ?_
  · rw [expectedLength_of_sound (by rw [is]; simp) sound, is, frameKind_headed, frameOpt_headed]
    cases carried : o.payload <;> simp [eventBytes, payloadBytes, carried, beBytes_length]
  · rw [eventZero, event]
    simpa using fun _ => named
  · rw [parseFrame, event, stamp, gen, is, frameKind_headed, frameOpt_headed, frameStation_headed,
      frameSynced_headed, ← is, payload]
    rfl

theorem leave_read (p : Priority) (n : StationNo) (synced : Bool) (reason : Byte) :
    ReadAs (withCrc (leaveBytes p n synced reason)) (.leave n reason) := by
  have is : withCrc (leaveBytes p n synced reason) = headed p 2 n synced false
      (reason :: beBytes 2 (crc16 (leaveBytes p n synced reason))) := rfl
  have sound : malformed (withCrc (leaveBytes p n synced reason)) = false := by
    rw [is]
    exact malformed_headed (by decide) (fun _ => rfl) nofun
  refine notice_read sound ?_ ?_ ?_
  · rw [expectedLength_of_sound (by rw [is]; simp) sound, is, frameKind_headed]
    rfl
  · rw [eventZero, is, frameKind_headed]
    rfl
  · rw [parseFrame, is, frameKind_headed, frameStation_headed]
    rfl

/-- Settles O53: a frame ends at the length that its head gives, its CRC matches, and its fields are where they were
put. -/
theorem noticeReadAsSent : Obligations.NoticeReadAsSent := by
  unfold Obligations.NoticeReadAsSent
  exact ⟨sync_read, event_read, leave_read, fun _ => rfl⟩

end Sys2Proof.Machine
end

section
/-! PROOF of O54: the fields of a loaded record, and that each table's checks read it as it was stored. -/

namespace Sys2Proof.Machine

/-! ### Words of a loaded record (R196) -/

section Words

variable {loaded l : List Byte} (is : loaded = l) {i : Nat}

include is

theorem shown_word16 {x : BitVec 16} (low : l[i]? = some (x.extractLsb' 0 8))
    (high : l[i + 1]? = some (x.extractLsb' 8 8)) (inside : i + 1 < 48 := by decide) :
    stWord16 (stagingOf loaded) i = x := by
  rw [stWord16, shown_byte is low (by omega), shown_byte is high inside,
    BitVec.extractLsb'_append_extractLsb'_eq_extractLsb' (by rfl)]
  exact BitVec.extractLsb'_eq_self

theorem shown_word32 {x : BitVec 32} (byte0 : l[i]? = some (x.extractLsb' 0 8))
    (byte1 : l[i + 1]? = some (x.extractLsb' 8 8)) (byte2 : l[i + 2]? = some (x.extractLsb' 16 8))
    (byte3 : l[i + 3]? = some (x.extractLsb' 24 8)) (inside : i + 3 < 48 := by decide) :
    stWord32 (stagingOf loaded) i = x := by
  have high : stWord16 (stagingOf loaded) (i + 2) = x.extractLsb' 16 16 := by
    rw [stWord16, shown_byte is byte2 (by omega), shown_byte is byte3 inside]
    exact BitVec.extractLsb'_append_extractLsb'_eq_extractLsb' (by rfl)
  have low : stWord16 (stagingOf loaded) i = x.extractLsb' 0 16 := by
    rw [stWord16, shown_byte is byte0 (by omega), shown_byte is byte1 (by omega)]
    exact BitVec.extractLsb'_append_extractLsb'_eq_extractLsb' (by rfl)
  rw [stWord32, high, low, BitVec.extractLsb'_append_extractLsb'_eq_extractLsb' (by rfl)]
  exact BitVec.extractLsb'_eq_self

end Words

/-! ### Codes and flags read back (R196) -/

theorem packBits_flag (b : Bool) : (packBits [b]).getLsbD 0 = b := by cases b <;> rfl

theorem scopeOf_line (c : Scope) : scopeOf (c == .line) = c := by cases c <;> rfl

theorem natByte_fin {n : Nat} (small : n ≤ 256) (i : Fin n) : (natByte i.val).toNat = i.val := by
  rw [natByte_toNat_mod]
  omega

theorem stSource_code (c : PosSource) : stSource c.code = some c := by cases c <;> rfl

theorem stEdge_code (c : EdgeSelect) : stEdge c.code = some c := by cases c <;> rfl

theorem stCmpMode_code (c : CmpMode) : stCmpMode c.code = some c := by cases c <;> rfl

theorem stPosMode_code (c : PosMode) : stPosMode c.code = some c := by cases c <;> rfl

theorem stSign_code (c : Sign) : stSign c.code = some c := by cases c <;> rfl

theorem stCoding_code (c : Coding) : stCoding c.code = some c := by cases c <;> rfl

theorem stClock_code (c : EncClock) : stClock c.code = some c := by cases c <;> rfl

theorem stEncCheck_code (c : EncCheck) : stEncCheck c.code = some c := by cases c <;> rfl

theorem stSlot_byte (slot : Option (Fin 8)) : stSlot (slotByte slot) = .ok slot := by
  revert slot
  decide

theorem ixOf_natByte {n : Nat} (small : n ≤ 256) (i : Fin n) : ixOf n (natByte i.val).toNat = some i := by
  rw [natByte_fin small, ixOf_val]

theorem need_some {α : Type} (a : α) (e : ConfigError) : need (some a) e = .ok a := rfl

theorem ok_bind {α β : Type} (a : α) (f : α → Checked β) : ((.ok a : Checked α) >>= f) = f a := rfl

/-! ### The records without a check that reads two fields -/

theorem stagedStation_bytes (g : StationConfig) : stagedStation (stagingOf g.bytes) = g := by
  have is : g.bytes = _ := rfl
  rw [stagedStation, shown_byte is rfl (i := 0), shown_byte is rfl (i := 1), shown_byte is rfl (i := 2),
    shown_word16 is (i := 3) rfl rfl, shown_word16 is (i := 5) rfl rfl, shown_byte is rfl (i := 7),
    shown_byte is rfl (i := 8)]

section Binding

variable {r : Fin 32} {b : BindingRow}

theorem checkBinding_bytes (priority : b.scope = .line → 1 ≤ b.priority.toNat ∧ b.priority.toNat ≤ 7)
    (payload : b.payloadFlag = true → r.val = 24 ∨ r.val = 27 ∨ 28 ≤ r.val) :
    checkBinding (stagingOf b.bytes) r = .ok b := by
  have is : b.bytes = _ := rfl
  have event : stWord16 (stagingOf b.bytes) 0 = b.event.setWidth 16 := shown_word16 is rfl rfl
  have scope : stByte (stagingOf b.bytes) 2 = packBits [b.scope == .line] := shown_byte is rfl
  have urgency : stByte (stagingOf b.bytes) 3 = b.priority := shown_byte is rfl
  have flag : stByte (stagingOf b.bytes) 4 = packBits [b.payloadFlag] := shown_byte is rfl
  have small : (b.event.setWidth 16).toNat ≤ 4095 := by
    have := b.event.isLt
    rw [BitVec.toNat_setWidth_of_le (by decide)]
    omega
  rw [checkBinding_eq, event, scope, urgency, flag, packBits_flag, packBits_flag, if_pos small,
    if_pos (by simpa using priority), if_pos payload, scopeOf_line]
  simp

theorem storable_of_checkBinding {v : Vector Byte 48} (stored : checkBinding v r = .ok b) :
    (b.scope = .line → 1 ≤ b.priority.toNat ∧ b.priority.toNat ≤ 7) ∧
      (b.payloadFlag = true → r.val = 24 ∨ r.val = 27 ∨ 28 ≤ r.val) := by
  rw [checkBinding_eq] at stored
  split at stored
  · split at stored
    · split at stored
      · cases stored
        rename_i priority payload
        exact ⟨fun line => priority (by cases h : (stByte v 2).getLsbD 0 <;> simp_all [scopeOf]), payload⟩
      · cases stored
    · cases stored
  · cases stored

end Binding

section Comparator

variable {g : CmpConfig}

theorem checkCmp_bytes (mask : 1 ≤ g.maskBits.toNat ∧ g.maskBits.toNat ≤ 32) :
    checkCmp (stagingOf g.bytes) = .ok g := by
  have is : g.bytes = _ := rfl
  rw [checkCmp, shown_byte is rfl (i := 0), shown_byte is rfl (i := 1), shown_byte is rfl (i := 2),
    shown_byte is rfl (i := 3), shown_word32 is (i := 4) rfl rfl rfl rfl, shown_word32 is (i := 8) rfl rfl rfl rfl,
    shown_byte is rfl (i := 12), shown_byte is rfl (i := 13)]
  simp only [stSource_code, stCmpMode_code, stSlot_byte, need_some, ok_bind, packBits_flag, require_bind, mask,
    decide_true, Bool.and_self, if_true]
  rfl

theorem storable_of_checkCmp {v : Vector Byte 48} (stored : checkCmp v = .ok g) :
    1 ≤ g.maskBits.toNat ∧ g.maskBits.toNat ≤ 32 := by
  rw [checkCmp_eq] at stored
  split at stored
  · cases stored
    rename_i range
    obtain ⟨-, -, low, high, -⟩ := range
    exact ⟨low, high⟩
  · cases stored

end Comparator

section Chan

variable {g : ChanConfig}

theorem checkChan_bytes (range : g.filterMicros.toNat ≤ 63 ∧ g.checkDelay ≠ 0 ∧ g.holdOffMillis ≠ 0) :
    checkChan (stagingOf g.bytes) = .ok g := by
  have is : g.bytes = _ := rfl
  have direction : (if g.direction.isOut then Direction.output else .input) = g.direction := by
    cases g.direction <;> rfl
  have staged : stagedChan (stagingOf g.bytes) = g := by
    rw [stagedChan, shown_byte is rfl (i := 0), shown_byte is rfl (i := 1), shown_byte is rfl (i := 2),
      shown_byte is rfl (i := 3), shown_byte is rfl (i := 4), shown_byte is rfl (i := 5), packBits_flag,
      packBits_flag, packBits_flag, direction]
  rw [checkChan_eq, staged, shown_byte is rfl (i := 1), shown_byte is rfl (i := 3), shown_byte is rfl (i := 4),
    if_pos range]

theorem storable_of_checkChan {v : Vector Byte 48} (stored : checkChan v = .ok g) :
    g.filterMicros.toNat ≤ 63 ∧ g.checkDelay ≠ 0 ∧ g.holdOffMillis ≠ 0 := by
  rw [checkChan_eq] at stored
  split at stored
  · cases stored
    assumption
  · cases stored

end Chan

section Pos

variable {g : PosConfig}

theorem checkPos_bytes
    (range : 8 ≤ g.enc.totalBits.toNat ∧ g.enc.totalBits.toNat ≤ 32 ∧ 1 ≤ g.enc.validBits.toNat ∧
      g.enc.validBits.toNat ≤ g.enc.totalBits.toNat ∧ g.enc.recoveryMicros ≠ 0) :
    checkPos (stagingOf g.bytes) = .ok g := by
  have is : g.bytes = _ := rfl
  obtain ⟨low, high, some_bit, few, recovers⟩ := range
  simp only [checkPos]
  rw [shown_byte is rfl (i := 0), shown_byte is rfl (i := 1), shown_byte is rfl (i := 2),
    shown_byte is rfl (i := 3), shown_byte is rfl (i := 4), shown_byte is rfl (i := 5), shown_byte is rfl (i := 6),
    shown_byte is rfl (i := 7), shown_byte is rfl (i := 8)]
  simp only [stPosMode_code, stSign_code, stCoding_code, stClock_code, stEncCheck_code, need_some, ok_bind,
    require_bind, low, high, some_bit, few, bne_iff_ne, decide_true, Bool.and_self, if_true]
  exact if_pos recovers

theorem storable_of_checkPos {v : Vector Byte 48} (stored : checkPos v = .ok g) :
    8 ≤ g.enc.totalBits.toNat ∧ g.enc.totalBits.toNat ≤ 32 ∧ 1 ≤ g.enc.validBits.toNat ∧
      g.enc.validBits.toNat ≤ g.enc.totalBits.toNat ∧ g.enc.recoveryMicros ≠ 0 := by
  rw [checkPos_eq] at stored
  split at stored
  · cases stored
    rename_i range
    obtain ⟨-, -, -, low, high, some_bit, few, -, -, recovers, -⟩ := range
    exact ⟨low, high, some_bit, few, recovers⟩
  · cases stored

end Pos

/-! ### Event descriptors (R25, R26) -/

/-- A present descriptor's first byte: that it is present, its scope and its priority. -/
theorem descHead_fields (priority : Priority) (scope : Scope) :
    let head : Byte := 0#1 ++ priority ++ 0#2 ++ flagBit (scope == .line) ++ 1#1
    head.getLsbD 0 = true ∧ head.getLsbD 1 = (scope == .line) ∧ head.extractLsb' 4 3 = priority := by
  cases scope <;> revert priority <;> decide

section Desc

variable {d : Option EventDesc} {loaded l : List Byte} (is : loaded = l) {i : Nat}
  (at0 : l[i]? = (descBytes d)[0]?) (at1 : l[i + 1]? = (descBytes d)[1]?)
  (at2 : l[i + 2]? = (descBytes d)[2]?) (inside : i + 2 < 48)

include is at0 at1 at2 inside

theorem stagedDesc_bytes (storable : DescStorable d) :
    DescInRange (stagingOf loaded) i ∧ stagedDesc (stagingOf loaded) i = d := by
  cases d with
  | none =>
    have absent : stByte (stagingOf loaded) i = 0 := shown_byte is at0 (by omega)
    rw [DescInRange, stagedDesc, absent]
    exact ⟨nofun, rfl⟩
  | some d =>
    obtain ⟨event, urgent⟩ := storable d rfl
    have head : stByte (stagingOf loaded) i =
        0#1 ++ d.priority ++ 0#2 ++ flagBit (d.scope == .line) ++ 1#1 := shown_byte is at0 (by omega)
    have number : stWord16 (stagingOf loaded) (i + 1) = d.event.setWidth 16 :=
      shown_word16 is at1 at2 (by omega)
    obtain ⟨present, scope, priority⟩ := descHead_fields d.priority d.scope
    rw [← head] at present scope priority
    have small := d.event.isLt
    have some_event : d.event.toNat ≠ 0 := fun zero => event (BitVec.eq_of_toNat_eq zero)
    refine ⟨fun _ => ?_, ?_⟩
    · rw [number, scope, priority, BitVec.toNat_setWidth_of_le (by decide)]
      exact ⟨by omega, by omega, fun line => urgent (by simpa using line)⟩
    · rw [stagedDesc, if_pos present, number, scope, priority, scopeOf_line]
      simp

end Desc

/-! ### Actions (R24 to R26) -/

theorem octal_natByte (i : Fin 8) : (natByte i.val).toNat ≤ 7 ∧ octal (natByte i.val) = i := by
  revert i
  decide

theorem setWidth_byte (x : BitVec 4) : (x.setWidth 8).toNat ≤ 15 ∧ (x.setWidth 8).setWidth 4 = x := by
  revert x
  decide

section Stored

variable {loaded : List Byte} {b0 b1 b2 b3 b4 b6 b7 : Byte} {a : Action}

theorem checkDrive_bytes {b5 : Byte} {p : DriveParams}
    (is : loaded = [b0, b1, b2, b3, b4, b5, b6, b7] ++ p.bytes) (storable : ParamsStorable p) :
    checkDrive (stagingOf loaded) = .ok (.drive p) := by
  obtain ⟨inner, outer, acts, pulses, bursts, ending⟩ := storable
  have mask : stByte (stagingOf loaded) 8 = p.mask := shown_byte is rfl
  have levels : stByte (stagingOf loaded) 9 = p.onLevels := shown_byte is rfl
  have width : stWord32 (stagingOf loaded) 10 = p.width.setWidth 32 := shown_word32 is rfl rfl rfl rfl
  have delay : stWord32 (stagingOf loaded) 14 = p.delay := shown_word32 is rfl rfl rfl rfl
  have innerCount : stByte (stagingOf loaded) 18 = p.innerCount := shown_byte is rfl
  have outerCount : stByte (stagingOf loaded) 19 = p.outerCount := shown_byte is rfl
  have innerSpacing : stWord32 (stagingOf loaded) 20 = p.innerSpacing.setWidth 32 :=
    shown_word32 is rfl rfl rfl rfl
  have outerSpacing : stWord32 (stagingOf loaded) 24 = p.outerSpacing := shown_word32 is rfl rfl rfl rfl
  have tag : stByte (stagingOf loaded) 28 = p.tag.setWidth 8 := shown_byte is rfl
  obtain ⟨endInRange, endEvent⟩ :=
    stagedDesc_bytes is (d := p.endEvent) (i := 29) rfl rfl rfl (by decide) ending
  have widths : (p.width.setWidth 32).toNat = p.width.toNat := BitVec.toNat_setWidth_of_le (by decide)
  have spacings : (p.innerSpacing.setWidth 32).toNat = p.innerSpacing.toNat :=
    BitVec.toNat_setWidth_of_le (by decide)
  obtain ⟨tagInRange, sameTag⟩ := setWidth_byte p.tag
  have range : DriveInRange (stagingOf loaded) := by
    rw [DriveInRange, tag, innerCount, outerCount, width, innerSpacing, widths, spacings]
    exact ⟨tagInRange, inner, outer, p.width.isLt, p.innerSpacing.isLt⟩
  have staged : stagedDrive (stagingOf loaded) = p := by
    rw [stagedDrive, mask, levels, width, delay, innerCount, innerSpacing, outerCount, outerSpacing, tag,
      sameTag, endEvent]
    simp
  rw [checkDrive_eq, if_pos range, if_pos, if_pos, if_pos, if_pos endInRange, staged]
  · rw [BurstsApart, outerCount, innerCount, innerSpacing, outerSpacing, width, widths, spacings]
    exact bursts
  · rw [PulsesApart, innerCount, innerSpacing, width, widths, spacings]
    exact pulses
  · rw [DriveActs, mask, width, widths]
    exact acts

theorem checkAction_bytes (is : loaded = [b0, b1, b2, b3, b4, a.code, b6, b7] ++ a.bytes)
    (storable : ActionStorable a) : checkAction (stagingOf loaded) = .ok a := by
  have kind : stByte (stagingOf loaded) 5 = a.code := shown_byte is rfl
  cases a with
  | drive p => exact (checkAction_drive kind).trans (checkDrive_bytes is storable)
  | cancel tag =>
    have shown : stByte (stagingOf loaded) 8 = tag.setWidth 8 := shown_byte is rfl
    obtain ⟨inRange, same⟩ := setWidth_byte tag
    rw [checkAction_cancel kind, shown, if_pos inRange, same]
  | latch src slot publish =>
    have source : stByte (stagingOf loaded) 8 = src.code := shown_byte is rfl
    have index : stByte (stagingOf loaded) 9 = natByte slot.val := shown_byte is rfl
    obtain ⟨inRange, same⟩ := octal_natByte slot
    obtain ⟨published, event⟩ :=
      stagedDesc_bytes is (d := publish) (i := 10) rfl rfl rfl (by decide) storable
    rw [checkAction_latch kind, source, index, if_pos ⟨by cases src <;> decide, inRange⟩,
      if_pos published, event, same]
    cases src <;> rfl
  | capture => exact checkAction_capture kind
  | compare k =>
    have index : stByte (stagingOf loaded) 8 = natByte k.val := shown_byte is rfl
    rw [checkAction_compare kind, index]
    fin_cases k <;> rfl
  | measure c k i slot =>
    have channel : stByte (stagingOf loaded) 8 = natByte c.val := shown_byte is rfl
    have edge : stByte (stagingOf loaded) 9 = k.code := shown_byte is rfl
    have interval : stByte (stagingOf loaded) 10 = i.setWidth 8 := shown_byte is rfl
    have index : stByte (stagingOf loaded) 11 = natByte slot.val := shown_byte is rfl
    obtain ⟨channelInRange, sameChannel⟩ := octal_natByte c
    obtain ⟨slotInRange, sameSlot⟩ := octal_natByte slot
    obtain ⟨inRange, same⟩ := setWidth_byte i
    rw [checkAction_measure kind, channel, edge, interval, index,
      if_pos ⟨channelInRange, by cases k <;> decide, inRange, slotInRange⟩, sameChannel, sameSlot, same]
    cases k <;> rfl
  | preset x =>
    have shown : stWord32 (stagingOf loaded) 8 = x := shown_word32 is rfl rfl rfl rfl
    rw [checkAction_preset kind, shown]

end Stored

/-! ### Subscription entries (R23) -/

/-- A filter's two bytes name it (R24). -/
theorem filter_named (f : OriginFilter) :
    ∃ kind arg : Byte, f.bytes = [kind, arg] ∧ (kind.toNat ≤ 2 ∨ kind = 3 ∧ arg.toNat ≤ 63) ∧
      (if kind = 0 then .any else if kind = 1 then .inside else if kind = 2 then .line
        else .station (arg.setWidth 6)) = f := by
  cases f with
  | any => exact ⟨_, _, rfl, .inl (by decide), rfl⟩
  | inside => exact ⟨_, _, rfl, .inl (by decide), rfl⟩
  | line => exact ⟨_, _, rfl, .inl (by decide), rfl⟩
  | station n =>
    have small : (n.setWidth 8).toNat ≤ 63 := by
      have := n.isLt
      rw [BitVec.toNat_setWidth_of_le (by decide)]
      omega
    refine ⟨_, _, rfl, .inr ⟨rfl, small⟩, congrArg OriginFilter.station ?_⟩
    simp

section Entry

variable {e : SubEntry}

theorem checkSub_bytes (event : e.event ≠ 0) (armed : e.armed = true) (storable : ActionStorable e.action) :
    checkSub (stagingOf e.bytes) = .ok e := by
  obtain ⟨kind, arg, filterBytes, named, filter⟩ := filter_named e.filter
  have is : e.bytes = [(e.event.setWidth 16).extractLsb' 0 8, (e.event.setWidth 16).extractLsb' 8 8, kind, arg,
      e.policy.code, e.action.code, packBits [e.armed], 0] ++ e.action.bytes := by
    rw [SubEntry.bytes, filterBytes]
    rfl
  have number : stWord16 (stagingOf e.bytes) 0 = e.event.setWidth 16 := shown_word16 is rfl rfl
  have filterKind : stByte (stagingOf e.bytes) 2 = kind := shown_byte is rfl
  have filterArg : stByte (stagingOf e.bytes) 3 = arg := shown_byte is rfl
  have policy : stByte (stagingOf e.bytes) 4 = e.policy.code := shown_byte is rfl
  have sameEvent : (e.event.setWidth 16).setWidth 12 = e.event := by simp
  have nonzero : stWord16 (stagingOf e.bytes) 0 ≠ 0 := fun zero =>
    event (by rw [← sameEvent, ← number, zero]; rfl)
  have header : HeaderOk (stagingOf e.bytes) := by
    refine ⟨?_, ?_, ?_⟩
    · have := e.event.isLt
      rw [number, BitVec.toNat_setWidth_of_le (by decide)]
      omega
    · rw [FilterNamed, filterKind, filterArg]
      exact named
    · rw [policy]
      cases e.policy <;> decide
  have samePolicy : (if e.policy.code = 0 then Policy.every else .once) = e.policy := by
    cases e.policy <;> rfl
  rw [checkSub_of_action nonzero header (checkAction_bytes is storable), stagedEntry, number, filterKind,
    filterArg, policy, filter, samePolicy, sameEvent, ← armed]

theorem checkSub_empty_bytes : checkSub (stagingOf SubEntry.empty.bytes) = .ok .empty :=
  checkSub_of_zero (by decide)

theorem storable_of_checkSub {v : Vector Byte 48} (stored : checkSub v = .ok e) :
    e = .empty ∨ e.event ≠ 0 ∧ e.armed = true ∧ ActionStorable e.action := by
  obtain rfl | ⟨a, action, rfl⟩ := checkSub_ok_cases stored
  · exact .inl rfl
  · by_cases zero : stWord16 v 0 = 0
    · rw [checkSub_of_zero zero] at stored
      exact .inl (Except.ok.inj stored).symm
    · refine .inr ⟨fun event => zero ?_, rfl, storable_of_checkAction action⟩
      rw [checkSub_eq zero] at stored
      split at stored
      case isFalse => cases stored
      have := congrArg BitVec.toNat (show (stWord16 v 0).setWidth 12 = 0 from event)
      rw [BitVec.toNat_setWidth, Nat.mod_eq_of_lt (by omega)] at this
      exact BitVec.eq_of_toNat_eq this

end Entry

/-- Settles O54: the checks of a table accept only what its bytes spell again, and read every field there. -/
theorem recordReadAsStored : Obligations.RecordReadAsStored := by
  refine ⟨stagedStation_bytes, fun v r b stored => ?_, fun v e stored => ?_,
    fun v g stored => checkCmp_bytes (storable_of_checkCmp stored),
    fun v g stored => checkChan_bytes (storable_of_checkChan stored),
    fun v g stored => checkPos_bytes (storable_of_checkPos stored)⟩
  · obtain ⟨priority, payload⟩ := storable_of_checkBinding stored
    exact checkBinding_bytes priority payload
  · obtain rfl | ⟨event, armed, storable⟩ := storable_of_checkSub stored
    · exact checkSub_empty_bytes
    · exact checkSub_bytes event armed storable

end Sys2Proof.Machine
end

section
/-! SUPPORT. The order of a schedule whose times lie near a line time: what keeps it, with the slack that each
expiry adds. -/

namespace Sys2Proof.Machine

/-! ### Differences of line times (R67) -/

theorem timeDiff_of_near {x y now : LineTime} {d : Nat} (slack : d ≤ 2 ^ 46)
    (hx : (timeDiff x now).natAbs < d) (hy : (timeDiff y now).natAbs < d) :
    timeDiff x y = timeDiff x now - timeDiff y now := by
  have apart : x - y = (x - now) - (y - now) := by bv_omega
  unfold timeDiff at *
  rw [apart, BitVec.toInt_sub, Int.bmod_eq_of_le] <;> omega

theorem isLater_of_near {x y now : LineTime} {d : Nat} (slack : d ≤ 2 ^ 46)
    (hx : (timeDiff x now).natAbs < d) (hy : (timeDiff y now).natAbs < d) :
    isLater x y = false ↔ timeDiff x now ≤ timeDiff y now := by
  rw [isLater, timeDiff_of_near slack hx hy, decide_eq_false_iff_not]
  omega

theorem timeDiff_add_near {x now step : LineTime} {d : Nat} (slack : d ≤ 2 ^ 46)
    (hx : (timeDiff x now).natAbs < d) (short : step.toNat < 2 ^ 32) :
    (timeDiff (x + step) now).natAbs < d + 2 ^ 32 := by
  have apart : x + step - now = (x - now) + step := by bv_omega
  have same : step.toInt = step.toNat := BitVec.toInt_eq_toNat_of_lt (by omega)
  unfold timeDiff at *
  rw [apart, BitVec.toInt_add, Int.bmod_eq_of_le] <;> omega

/-! ### Entries -/

/-- An entry's three times lie within `d` ticks of a line time. -/
structure SchedEntry.Near (e : SchedEntry) (now : LineTime) (d : Nat) : Prop where
  due : (timeDiff e.due now).natAbs < d
  burst : (timeDiff e.burstStart now).natAbs < d
  train : (timeDiff e.trainStart now).natAbs < d

/-- An entry's remaining counts, and the count its bursts are loaded with, are at least 1. -/
def SchedEntry.Counted (e : SchedEntry) : Prop :=
  1 ≤ e.innerRem.toNat ∧ 1 ≤ e.outerRem.toNat ∧ 1 ≤ e.innerCount.toNat

theorem SchedEntry.Near.mono {e : SchedEntry} {now : LineTime} {d d' : Nat} (h : e.Near now d) (le : d ≤ d') :
    e.Near now d' :=
  ⟨h.due.trans_le le, h.burst.trans_le le, h.train.trans_le le⟩

/-- What an expiry puts in an entry's place: near where the entry is, with counts where it has them. -/
structure SchedEntry.Leads (e x : SchedEntry) : Prop where
  near : ∀ {now : LineTime} {d : Nat}, d ≤ 2 ^ 46 → e.Near now d → x.Near now (d + 2 ^ 32)
  counted : e.Counted → x.Counted

section Leads

variable (e : SchedEntry)

theorem offPending_leads : e.Leads e.offPending where
  near slack h :=
    ⟨timeDiff_add_near slack h.burst (by have := e.width.isLt; simp; omega), (h.mono (by omega)).burst,
      (h.mono (by omega)).train⟩
  counted := id

theorem pred_toNat {b : Byte} (many : 1 < b.toNat) : 1 ≤ (b - 1).toNat := by bv_omega

theorem nextPulse_leads (many : 1 < e.innerRem.toNat) : e.Leads e.nextPulse where
  near slack h := by
    have start := timeDiff_add_near slack h.burst (step := e.innerSpacing.setWidth 48)
      (by have := e.innerSpacing.isLt; simp; omega)
    exact ⟨start, start, (h.mono (by omega)).train⟩
  counted h := ⟨pred_toNat many, h.2⟩

theorem nextBurst_leads (many : 1 < e.outerRem.toNat) : e.Leads e.nextBurst where
  near slack h := by
    have start := timeDiff_add_near slack h.train (step := e.outerSpacing.setWidth 48)
      (by have := e.outerSpacing.isLt; simp; omega)
    exact ⟨start, start, start⟩
  counted h := ⟨h.2.2, pred_toNat many, h.2.2⟩

end Leads

/-! ### The expiry of an entry, as the schedule sees it -/

/-- The schedule with an entry stamped into it. -/
def ScheduleUnit.stamp (u : ScheduleUnit) (e : SchedEntry) : ScheduleUnit :=
  { entries := placeEntry { e with seq := u.counter } u.entries, counter := u.counter + 1 }

theorem stampEntry_sched (s : State) (e : SchedEntry) : (s.stampEntry e).sched = s.sched.stamp e := rfl

/-- The schedule an entry's expiry leaves: without it, or with what it leads to. -/
inductive ScheduleUnit.Expires (u : ScheduleUnit) (e : SchedEntry) : ScheduleUnit → Prop
  | ended : u.Expires e u
  | again {x : SchedEntry} (leads : e.Leads x) : u.Expires e (u.stamp x)

theorem afterPhase_times (e : SchedEntry) (s : State) : ∃ n, e.afterPhase s = { e with suppressed := n } := by
  unfold SchedEntry.afterPhase SchedEntry.countSuppressed
  split
  · exact ⟨_, rfl⟩
  · exact ⟨_, rfl⟩

theorem leads_afterPhase {e x : SchedEntry} {s : State} (leads : (e.afterPhase s).Leads x) : e.Leads x := by
  obtain ⟨n, is⟩ := afterPhase_times e s
  rw [is] at leads
  exact ⟨fun slack h => leads.near slack ⟨h.due, h.burst, h.train⟩, fun h => leads.counted h⟩

theorem expireEntry_sched (s : State) (e : SchedEntry) : s.sched.Expires e (s.expireEntry e).sched := by
  have again {x : SchedEntry} (leads : (e.afterPhase s).Leads x) :
      s.sched.Expires e ((s.applyPhase e).stampEntry x).sched := by
    rw [stampEntry_sched, (s.applyPhase_frame e).2.2.2.2.1]
    exact .again (leads_afterPhase leads)
  simp only [State.expireEntry, State.afterExpiry, State.repetition]
  split
  · exact again (offPending_leads _)
  split
  · exact again (nextPulse_leads _ ‹_›)
  split
  · exact again (nextBurst_leads _ ‹_›)
  · simpa using ScheduleUnit.Expires.ended (u := s.sched) (e := e)

theorem scheduleExpiry_sched {s : State} {e : SchedEntry} {l : List SchedEntry} (head : s.sched.entries = e :: l) :
    ({ s.sched with entries := l } : ScheduleUnit).Expires e s.scheduleExpiry.sched := by
  simp only [State.scheduleExpiry, head]
  exact expireEntry_sched (s.setSched { s.sched with entries := l }) e

end Sys2Proof.Machine
end

section
/-! SUPPORT. A schedule in order, its times near a line time and its stampings not long ago: that stampings, expiries,
DRIVE and CANCEL keep it, with the slack each adds. -/

namespace Sys2Proof.Machine

/-- How long ago an entry was stamped, in stampings (R45). -/
def ScheduleUnit.age (u : ScheduleUnit) (e : SchedEntry) : Nat := (u.counter - e.seq).toNat

/-- The schedule in the order of due times and of the stampings, its counts at least 1; its times less than `d`
ticks from a line time, its stampings at most `a` stampings ago. -/
structure ScheduleUnit.Ordered (u : ScheduleUnit) (now : LineTime) (d a : Nat) : Prop where
  near : ∀ e ∈ u.entries, e.Near now d
  byDue : u.entries.Pairwise fun x y => isLater x.due y.due = false
  byStamp : u.entries.Pairwise fun x y => x.due = y.due → u.age y < u.age x
  stamped : ∀ e ∈ u.entries, 1 ≤ u.age e
  recent : ∀ e ∈ u.entries, u.age e ≤ a
  counted : ∀ e ∈ u.entries, e.Counted

theorem pairwise_insert {α : Type} {R : α → α → Prop} {l r : List α} {e : α} (apart : (l ++ r).Pairwise R)
    (before : ∀ x ∈ l, R x e) (behind : ∀ y ∈ r, R e y) : (l ++ e :: r).Pairwise R := by
  obtain ⟨left, right, across⟩ := List.pairwise_append.mp apart
  refine List.pairwise_append.mpr ⟨left, List.pairwise_cons.mpr ⟨behind, right⟩, fun x mem y mem' => ?_⟩
  obtain rfl | mem' := List.mem_cons.mp mem'
  · exact before x mem
  · exact across x mem y mem'

namespace ScheduleUnit.Ordered

variable {u : ScheduleUnit} {now : LineTime} {d a : Nat}

theorem mono (h : u.Ordered now d a) {d' a' : Nat} (further : d ≤ d') (older : a ≤ a') : u.Ordered now d' a' :=
  { h with
    near := fun e mem => (h.near e mem).mono further
    recent := fun e mem => (h.recent e mem).trans older }

theorem fewer (h : u.Ordered now d a) {l : List SchedEntry} (some_of : l.Sublist u.entries) :
    ({ u with entries := l } : ScheduleUnit).Ordered now d a where
  near e mem := h.near e (some_of.subset mem)
  byDue := h.byDue.sublist some_of
  byStamp := h.byStamp.sublist some_of
  stamped e mem := h.stamped e (some_of.subset mem)
  recent e mem := h.recent e (some_of.subset mem)
  counted e mem := h.counted e (some_of.subset mem)

theorem age_later {e : SchedEntry} {c : BitVec 32} (young : (c - e.seq).toNat < 2 ^ 32 - 1) :
    (c + 1 - e.seq).toNat = (c - e.seq).toNat + 1 := by
  bv_omega

/-- A stamping that inserts nothing. -/
theorem counts (h : u.Ordered now d a) (recent : a < 2 ^ 32 - 1) :
    ({ u with counter := u.counter + 1 } : ScheduleUnit).Ordered now d (a + 1) := by
  have older (e) (mem : e ∈ u.entries) :
      ({ u with counter := u.counter + 1 } : ScheduleUnit).age e = u.age e + 1 :=
    age_later (by have := h.recent e mem; unfold age at this; omega)
  refine { h with byStamp := ?_, stamped := fun e mem => ?_, recent := fun e mem => ?_ }
  · refine h.byStamp.imp_of_mem fun mem mem' earlier same => ?_
    rw [older _ mem, older _ mem']
    exact Nat.add_lt_add_right (earlier same) 1
  · rw [older e mem]
    omega
  · rw [older e mem]
    exact Nat.add_le_add_right (h.recent e mem) 1

/-- What stands behind an entry that is later than `x` is later, too. -/
theorem later_of_head (h : u.Ordered now d a) (slack : d ≤ 2 ^ 46) {x y : SchedEntry} (near : x.Near now d)
    {l r : List SchedEntry} (entries : u.entries = l ++ r)
    (later : ∀ z, r.head? = some z → 0 < (z.due - x.due).toInt) (mem : y ∈ r) :
    timeDiff x.due now < timeDiff y.due now := by
  have near' {z : SchedEntry} (there : z ∈ r) := (h.near z (by rw [entries]; simp [there])).due
  have sorted := (List.pairwise_append.mp (entries ▸ h.byDue)).2.1
  cases r with
  | nil => cases mem
  | cons z r =>
    have first : timeDiff x.due now < timeDiff z.due now := by
      have := later z rfl
      rw [← timeDiff, timeDiff_of_near slack (near' List.mem_cons_self) near.due] at this
      omega
    obtain rfl | behind := List.mem_cons.mp mem
    · exact first
    · have notLater := (List.pairwise_cons.mp sorted).1 y behind
      rw [isLater_of_near slack (near' List.mem_cons_self) (near' mem)] at notLater
      omega

/-- A new entry goes behind those due as early, and is the last stamped of them. -/
theorem stamp (h : u.Ordered now d a) (slack : d ≤ 2 ^ 46) (recent : a < 2 ^ 32 - 1) {x : SchedEntry}
    (near : x.Near now d) (counted : x.Counted) : (u.stamp x).Ordered now d (a + 1) := by
  obtain ⟨l, r, entries, placed, notLater, later⟩ := placeEntry_between { x with seq := u.counter } u.entries
  have counts := h.counts recent
  have mem {e : SchedEntry} (there : e ∈ l ∨ e ∈ r) : e ∈ u.entries := by
    rw [entries]
    exact List.mem_append.mpr there
  have behind (y) (there : y ∈ r) : timeDiff x.due now < timeDiff y.due now :=
    later_of_head h slack near entries later there
  have newest : (u.counter + 1 - u.counter).toNat = 1 := by bv_omega
  have cases_mem {e : SchedEntry} (there : e ∈ l ++ { x with seq := u.counter } :: r) :
      e = { x with seq := u.counter } ∨ e ∈ u.entries := by
    rw [← placed] at there
    exact mem_placeEntry.mp there
  have older {e : SchedEntry} (there : e ∈ u.entries) : 1 < (u.counter + 1 - e.seq).toNat := by
    have := h.stamped e there
    have := h.recent e there
    unfold age at *
    rw [age_later (by omega)]
    omega
  rw [ScheduleUnit.stamp, placed]
  constructor
  case near =>
    intro e there
    obtain rfl | there := cases_mem there
    · exact ⟨near.due, near.burst, near.train⟩
    · exact h.near e there
  case byDue =>
    refine pairwise_insert (entries ▸ h.byDue) (fun y there => ?_) fun y there => ?_
    · exact (isLater_eq_false_iff ..).mpr (notLater y there)
    · exact (isLater_of_near slack near.due (h.near y (mem (.inr there))).due).mpr (behind y there).le
  case byStamp =>
    refine pairwise_insert (entries ▸ counts.byStamp) (fun y there same => ?_) fun y there same => ?_
    · exact newest.trans_lt (older (mem (.inl there)))
    · have := behind y there
      rw [show x.due = y.due from same] at this
      omega
  case stamped =>
    intro e there
    obtain rfl | there := cases_mem there
    · exact newest.ge
    · exact counts.stamped e there
  case recent =>
    intro e there
    obtain rfl | there := cases_mem there
    · exact newest.trans_le (Nat.le_add_left 1 a)
    · exact counts.recent e there
  case counted =>
    intro e there
    obtain rfl | there := cases_mem there
    · exact counted
    · exact h.counted e there

end ScheduleUnit.Ordered

end Sys2Proof.Machine
end

section
/-! SUPPORT. What an expiry, a DRIVE and a CANCEL make of a schedule in order, and of how many entries it has. -/

namespace Sys2Proof.Machine

section Expiry

variable {u v : ScheduleUnit} {now : LineTime} {d a : Nat} {e : SchedEntry} {l : List SchedEntry}

theorem ScheduleUnit.Ordered.expires (h : u.Ordered now d a) (slack : d + 2 ^ 32 ≤ 2 ^ 46)
    (recent : a < 2 ^ 32 - 1) (near : e.Near now d) (counted : e.Counted) (after : u.Expires e v) :
    v.Ordered now (d + 2 ^ 32) (a + 1) := by
  have further := h.mono (Nat.le_add_right d (2 ^ 32)) le_rfl
  cases after with
  | ended => exact further.mono le_rfl (Nat.le_succ a)
  | again leads => exact further.stamp slack recent (leads.near (by omega) near) (leads.counted counted)

theorem ScheduleUnit.Expires.length_le (after : u.Expires e v) : v.entries.length ≤ u.entries.length + 1 := by
  cases after with
  | ended => exact Nat.le_succ _
  | again leads => exact (placeEntry_length ..).le

theorem scheduleExpiry_ordered {s : State} (h : s.sched.Ordered now d a) (slack : d + 2 ^ 32 ≤ 2 ^ 46)
    (recent : a < 2 ^ 32 - 1) : s.scheduleExpiry.sched.Ordered now (d + 2 ^ 32) (a + 1) := by
  cases head : s.sched.entries with
  | nil =>
    rw [State.scheduleExpiry, head]
    exact h.mono (Nat.le_add_right ..) (Nat.le_succ a)
  | cons e l =>
    have mem : e ∈ s.sched.entries := by simp [head]
    exact (h.fewer (l := l) (by simp [head])).expires slack recent (h.near e mem) (h.counted e mem)
      (scheduleExpiry_sched head)

theorem scheduleExpiry_length (s : State) :
    s.scheduleExpiry.sched.entries.length ≤ s.sched.entries.length := by
  cases head : s.sched.entries with
  | nil => simp [State.scheduleExpiry, head]
  | cons e l => exact (scheduleExpiry_sched head).length_le

end Expiry

/-! ### DRIVE (R47, R48) -/

section Drive

variable {s : State} {p : DriveParams} {c : Cause}

/-- What the schedule is after a DRIVE: as it was; with the entry stamped; or, where it is late, with a stamping
more and the entry expired. -/
theorem drive_sched_cases (s : State) (p : DriveParams) (c : Cause) :
    (s.drive p c).sched = s.sched ∨
      s.sched.entries.length < 32 ∧
        ((s.drive p c).sched = s.sched.stamp (driveEntry p c (driveDue p c) false) ∨
          ({ s.sched with counter := s.sched.counter + 1 } : ScheduleUnit).Expires
            { driveEntry p c s.time.lineTime true with seq := s.sched.counter } (s.drive p c).sched) := by
  unfold State.drive
  split
  · exact .inl rfl
  split
  · exact .inl (by simp)
  rename_i room
  refine .inr ⟨by simpa [Config.scheduleCapacity] using room, ?_⟩
  split
  · exact .inl rfl
  · refine .inr ?_
    have late := expireEntry_sched
      ((s.report (.actionLate (satTicks (s.time.lineTime - driveDue p c).toNat) c.entry)).setSched
        { s.sched with counter := s.sched.counter + 1 })
      { driveEntry p c s.time.lineTime true with seq := s.sched.counter }
    simpa [State.insertLate] using late

theorem drive_length (few : s.sched.entries.length ≤ 32) : (s.drive p c).sched.entries.length ≤ 32 := by
  obtain same | ⟨room, stamped | late⟩ := drive_sched_cases s p c
  · rw [same]
    exact few
  · rw [stamped, ScheduleUnit.stamp, placeEntry_length]
    exact room
  · exact late.length_le.trans room

/-- A DRIVE keeps the order where the entry it leaves is near. -/
theorem drive_ordered {now : LineTime} {d a : Nat} (h : s.sched.Ordered now d a) (slack : d ≤ 2 ^ 46)
    (recent : a < 2 ^ 32 - 2) (counts : 1 ≤ p.innerCount.toNat ∧ 1 ≤ p.outerCount.toNat)
    (near : ∀ e ∈ (s.drive p c).sched.entries, e.Near now d) : (s.drive p c).sched.Ordered now d (a + 2) := by
  have counted (due : LineTime) (late : Bool) (seq : BitVec 32) :
      ({ driveEntry p c due late with seq := seq } : SchedEntry).Counted := ⟨counts.1, counts.2, counts.1⟩
  have newest (u : ScheduleUnit) {x : SchedEntry} (stamped : (s.drive p c).sched = u.stamp x) : x.Near now d := by
    have there := near { x with seq := u.counter } (by
      rw [stamped]
      exact mem_placeEntry.mpr (.inl rfl))
    exact ⟨there.due, there.burst, there.train⟩
  obtain same | ⟨-, stamped | late⟩ := drive_sched_cases s p c
  · rw [same]
    exact h.mono le_rfl (by omega)
  · have is := newest _ stamped
    rw [stamped]
    exact (h.stamp slack (by omega) is (counted ..)).mono le_rfl (by omega)
  · have counter := h.counts (by omega)
    generalize (s.drive p c).sched = v at late newest ⊢
    cases late with
    | ended => exact counter.mono le_rfl (by omega)
    | again leads => exact counter.stamp slack (by omega) (newest _ rfl) (leads.counted (counted ..))

end Drive

/-! ### CANCEL (R55, R57) -/

section Cancel

variable {s : State} {tag : BitVec 4} {now : LineTime} {d a : Nat}

theorem expireBefore_length (tag : BitVec 4) (n : Nat) (left : List SchedEntry) (s : State) :
    (State.expireBefore tag n left s).sched.entries.length ≤ left.length + s.sched.entries.length := by
  induction n generalizing left s with
  | zero => simp [State.expireBefore, State.putBack]
  | succ n ih =>
    simp only [State.expireBefore]
    split
    · simp [State.putBack]
    · rename_i e l head
      split
      · simp [State.putBack]
      split
      · simp [State.putBack]
      split
      · refine (ih _ _).trans ?_
        simp [head]
        omega
      · refine (ih _ _).trans (Nat.add_le_add_left ?_ _)
        exact (scheduleExpiry_length _).trans (by simp [head])

/-- The entries that the CANCEL has been left stand ahead of a schedule in order. -/
def ScheduleUnit.OrderedBehind (u : ScheduleUnit) (tag : BitVec 4) (now : LineTime) (d a : Nat) : Prop :=
  ∃ left l, u.entries = left ++ l ∧ (∀ e ∈ left, e.tag = tag) ∧
    ({ u with entries := l } : ScheduleUnit).Ordered now d a

theorem putBack_ordered (h : s.sched.Ordered now d a) {left : List SchedEntry} (tagged : ∀ e ∈ left, e.tag = tag) :
    (s.putBack left).sched.OrderedBehind tag now d a :=
  ⟨left, s.sched.entries, rfl, tagged, h⟩

theorem expireBefore_ordered (n : Nat) {left : List SchedEntry} (h : s.sched.Ordered now d a)
    (slack : d + n * 2 ^ 32 ≤ 2 ^ 46) (recent : a + n ≤ 2 ^ 32 - 1) (tagged : ∀ e ∈ left, e.tag = tag) :
    (State.expireBefore tag n left s).sched.OrderedBehind tag now (d + n * 2 ^ 32) (a + n) := by
  induction n generalizing left s d a with
  | zero => exact putBack_ordered (h.mono (by omega) le_rfl) tagged
  | succ n ih =>
    have stops : s.sched.Ordered now (d + (n + 1) * 2 ^ 32) (a + (n + 1)) := h.mono (by omega) (by omega)
    simp only [State.expireBefore]
    split
    · exact putBack_ordered stops tagged
    · rename_i e l head
      split
      · exact putBack_ordered stops tagged
      split
      · exact putBack_ordered (s := s.useChoices 1) stops tagged
      split
      · rename_i choice
        have rest : ((s.useChoices 1).setSched { s.sched with entries := l }).sched.Ordered now (d + 2 ^ 32) (a + 1) :=
          (h.fewer (by simp [head])).mono (by omega) (by omega)
        have := ih rest (by omega) (by omega) (left := left ++ [e]) (by
          intro x mem
          rcases List.mem_append.mp mem with mem | mem
          · exact tagged x mem
          · rw [List.mem_singleton.mp mem]
            exact choice.2)
        convert this using 1 <;> ring
      · have expired := scheduleExpiry_ordered (s := s.useChoices 1) h (by omega) (by omega)
        have := ih expired (by omega) (by omega) tagged
        convert this using 1 <;> ring

theorem removeTagged_sched (s : State) (tag : BitVec 4) :
    (s.removeTagged tag).sched = { s.sched with entries := s.sched.entries.filter fun e => e.tag != tag } := by
  simp [State.removeTagged]

theorem removeTagged_ordered (h : s.sched.OrderedBehind tag now d a) :
    (s.removeTagged tag).sched.Ordered now d a := by
  obtain ⟨left, l, entries, tagged, ordered⟩ := h
  have none_left : left.filter (fun e => e.tag != tag) = [] :=
    List.filter_eq_nil_iff.mpr fun e mem => by simp [tagged e mem]
  rw [removeTagged_sched, entries, List.filter_append, none_left, List.nil_append]
  exact ordered.fewer List.filter_sublist

theorem cancel_ordered (h : s.sched.Ordered now d a) (slack : d + 2 ^ 38 ≤ 2 ^ 46) (recent : a + 64 ≤ 2 ^ 32 - 1) :
    (s.cancel tag).sched.Ordered now (d + 2 ^ 38) (a + 64) := by
  unfold State.cancel
  split
  · exact h.mono (by omega) (by omega)
  · exact removeTagged_ordered (expireBefore_ordered 64 h (by omega) (by omega) nofun)

theorem cancel_length (s : State) (tag : BitVec 4) :
    (s.cancel tag).sched.entries.length ≤ s.sched.entries.length := by
  unfold State.cancel
  split
  · exact le_rfl
  · rw [removeTagged_sched]
    exact (List.length_filter_le ..).trans ((expireBefore_length ..).trans (by simp))

end Cancel

end Sys2Proof.Machine
end

section
/-! SUPPORT. What a step does to the schedule, and the counts of the DRIVEs that reach it. -/

namespace Sys2Proof.Machine

/-! ### The counts of the DRIVEs (R25) -/

theorem counts_hardReset (s : State) (held : Bool) : (s.hardReset held).disp.Counts where
  table i p drives := by
    have capture : (Vector.replicate 64 SubEntry.empty)[i.val].action = .capture := by simp [SubEntry.empty]
    exact nomatch capture.symm.trans drives
  underWay _ _ := nofun

theorem move_keeps_counts (s t : State) (move : Move s t) (h : s.disp.Counts) : t.disp.Counts := by
  cases move with
  | arrive o opened room => exact h.of_actions (fun _ => rfl) (.inl rfl)
  | disp d keeps => exact keeps.counts h
  | hardReset held => exact counts_hardReset s held
  | attemptBegin due => simpa using h
  | placeSync round => simpa using h
  | _ => exact h

/-! ### The schedule after a request -/

section Requests

variable {s : State} {r : Request}

theorem takeRequest_sched_cases (s : State) (r : Request) :
    (∃ p, r.action = .drive p ∧ s.takeRequest r = s.drive p r.cause) ∨
      (∃ tag, r.action = .cancel tag ∧ s.takeRequest r = s.cancel tag) ∨
      (s.takeRequest r).sched = s.sched := by
  unfold State.takeRequest
  split
  · exact .inl ⟨_, ‹_›, rfl⟩
  · exact .inr (.inl ⟨_, ‹_›, rfl⟩)
  all_goals exact .inr (.inr (by simp))

theorem takeRequest_length (few : s.sched.entries.length ≤ 32) :
    (s.takeRequest r).sched.entries.length ≤ 32 := by
  obtain ⟨p, -, is⟩ | ⟨tag, -, is⟩ | same := takeRequest_sched_cases s r
  · rw [is]
    exact drive_length few
  · rw [is]
    exact (cancel_length s tag).trans few
  · rw [same]
    exact few

theorem takeUnderWay_length (few : s.sched.entries.length ≤ 32) : s.takeUnderWay.sched.entries.length ≤ 32 := by
  unfold State.takeUnderWay
  split
  · exact takeRequest_length few
  · exact few

theorem examine_length {i : Fin 64} {o : Occurrence} (few : s.sched.entries.length ≤ 32) :
    (s.examine i o).sched.entries.length ≤ 32 := by
  have disarmed : (s.disarmOnce i).sched.entries.length ≤ 32 := by simpa using few
  simp only [State.examine]
  split
  · unfold State.passOn
    split
    · exact takeRequest_length (s := (s.disarmOnce i).useChoices 1) disarmed
    · simpa using few
  · exact few

theorem entryExamined_length (few : s.sched.entries.length ≤ 32) : s.entryExamined.sched.entries.length ≤ 32 := by
  unfold State.entryExamined
  split
  · exact examine_length (takeUnderWay_length few)
  · exact few
  · exact few

/-- One request keeps the order where the entries it leaves are near. -/
theorem takeRequest_ordered {now : LineTime} {d a : Nat} (h : s.sched.Ordered now d a)
    (slack : d + 2 ^ 38 ≤ 2 ^ 46) (recent : a + 64 ≤ 2 ^ 32 - 1)
    (counts : ∀ p, r.action = .drive p → p.Counts)
    (near : ∀ e ∈ (s.takeRequest r).sched.entries, e.Near now d) :
    (s.takeRequest r).sched.Ordered now (d + 2 ^ 38) (a + 64) := by
  obtain ⟨p, drives, is⟩ | ⟨tag, -, is⟩ | same := takeRequest_sched_cases s r
  · rw [is] at near ⊢
    exact (drive_ordered h (by omega) (by omega) (counts p drives) near).mono (by omega) (by omega)
  · rw [is]
    exact cancel_ordered h slack recent
  · rw [same]
    exact h.mono (by omega) (by omega)

theorem takeUnderWay_ordered {now : LineTime} {d a : Nat} (h : s.sched.Ordered now d a)
    (slack : d + 2 ^ 38 ≤ 2 ^ 46) (recent : a + 64 ≤ 2 ^ 32 - 1) (counts : s.disp.Counts)
    (near : ∀ e ∈ s.takeUnderWay.sched.entries, e.Near now d) :
    s.takeUnderWay.sched.Ordered now (d + 2 ^ 38) (a + 64) := by
  unfold State.takeUnderWay at *
  split
  · rename_i r under
    rw [under] at near
    exact takeRequest_ordered (s := s.setDisp { s.disp with underWay := none }) h slack recent
      (counts.underWay r · under) near
  · exact h.mono (by omega) (by omega)

end Requests

/-! ### The schedule after a step -/

section Step

variable {s t : State}

/-- The schedule is as it was, or empty. -/
def State.StandsOrEmpty (s t : State) : Prop := t.sched = s.sched ∨ t.sched.entries = []

theorem leave_sched (s : State) : s.StandsOrEmpty s.leave := by
  unfold State.leave
  split
  · exact .inr (by simp [State.leaveTaken, State.flushSchedule])
  · exact .inl (by simp)

theorem command_sched (s : State) (value : Byte) : s.StandsOrEmpty (s.command value) := by
  unfold State.command
  split
  · exact .inl (by simp)
  split
  · exact leave_sched s
  split
  · exact .inr (by rw [restart_sched])
  (repeat' split) <;> exact .inl (by simp)

theorem writeRegister_sched (s : State) (a : Nat) (value : Byte) : s.StandsOrEmpty (s.writeRegister a value) := by
  unfold State.writeRegister
  split
  · exact .inl rfl
  split
  · exact command_sched s value
  (repeat' split) <;> exact .inl (by simp [State.writeSelect])

theorem portByte_sched (s : State) (command : Byte) (data : Option Byte) :
    s.StandsOrEmpty (s.portByte command data) := by
  unfold State.portByte State.dataByte
  (repeat' split)
  · simpa [State.StandsOrEmpty] using
      writeRegister_sched (s.hostWrite (command.setWidth 7)) ((command.setWidth 7).toNat) ‹Byte›
  · exact .inl (by simp)
  · exact .inl rfl

theorem actIf_sched {due : Bool} {f : State → State} (h : actIf due s f = .next t)
    (does : s.StandsOrEmpty (f s)) : s.StandsOrEmpty t := by
  obtain rfl | ⟨-, -, rfl⟩ := actIf_next h
  · exact .inl rfl
  · exact does

theorem act_sched {f : State → State} (h : act s f = .next t) (does : s.StandsOrEmpty (f s)) :
    s.StandsOrEmpty t :=
  actIf_sched h does

/-- A command of the command register: the write, then the command. -/
theorem act_write_sched {a : BitVec 7} {f : State → State} (h : act s (fun s => f (s.hostWrite a)) = .next t)
    (does : (s.hostWrite a).StandsOrEmpty (f (s.hostWrite a))) : s.StandsOrEmpty t :=
  actIf_sched h (by simpa [State.StandsOrEmpty] using does)

theorem execPinTransition_sched {pin : Nat} {l : Level} (h : execPinTransition pin l s = .next t) :
    t.sched = s.sched := by
  unfold execPinTransition at h
  split at h
  · cases h
    (repeat' split) <;> simp
  · cases h
    simp

/-- Of the instructions that do not empty it, two change the schedule. -/
theorem exec_sched {i : Instr} (h : exec i s = .next t) :
    s.StandsOrEmpty t ∨ t = s.scheduleExpiry ∨ t = s.entryExamined := by
  cases i with
  | scheduleExpiry =>
    obtain rfl | ⟨-, -, is⟩ := actIf_next h
    · exact .inl (.inl rfl)
    · exact .inr (.inl is)
  | entryExamined =>
    obtain rfl | ⟨-, -, is⟩ := actIf_next h
    · exact .inl (.inl rfl)
    · exact .inr (.inr is)
  | join => exact .inl (act_write_sched h (.inl (by simp)))
  | leave => exact .inl (act_write_sched h (leave_sched _))
  | restart => exact .inl (act_write_sched h (.inr (by rw [restart_sched])))
  | rearmSub => exact .inl (act_write_sched h (.inl (by simp)))
  | rearmCmp => exact .inl (act_write_sched h (.inl (by simp)))
  | restore => exact .inl (act_write_sched h (.inl (by simp)))
  | inject => exact .inl (act_write_sched h (.inl (by simp)))
  | store value => exact .inl (act_write_sched h (.inl (by simp)))
  | tableIndex value => exact .inl (act_write_sched (f := (State.writeIndex · value)) h (.inl (by simp)))
  | tableData offset value =>
    exact .inl (actIf_sched (f := fun s => (s.hostWrite _).writeData offset value) h (.inl (by simp)))
  | timeSnapshot => exact .inl (act_sched h (.inl (by simp)))
  | reportWindow => exact .inl (act_sched h (.inl (by simp)))
  | reportHeadRemove => exact .inl (act_sched h (.inl (by simp)))
  | registerWrite command data =>
    exact .inl (actIf_sched (f := (State.portByte · command data)) h (portByte_sched ..))
  | hardwareReset edge =>
    refine .inl (.inr ?_)
    cases edge <;> cases h <;> rfl
  | pinTransition pin level => exact .inl (.inl (execPinTransition_sched h))
  | frameEnd chars =>
    simp only [exec, execFrameEnd] at h
    split at h
    · exact .inl (actIf_sched h (.inl (by simp)))
    · cases h
      exact .inl (.inl rfl)
  | attemptComplete =>
    simp only [exec, execAttemptComplete] at h
    split at h
    · exact .inl (actIf_sched h (.inl (by simp)))
    · cases h
      exact .inl (.inl rfl)
  | edgeCounted channel =>
    simp only [exec, execEdgeCounted] at h
    split at h
    · exact .inl (actIf_sched h (.inl (by simp)))
    · cases h
      exact .inl (.inl rfl)
  | readbackFault channel =>
    simp only [exec, execReadbackFault] at h
    split at h
    · exact .inl (actIf_sched h (.inl (by simp)))
    · cases h
      exact .inl (.inl rfl)
  | holdOffExpiry channel =>
    simp only [exec, execHoldOffExpiry] at h
    split at h
    · exact .inl (actIf_sched h (.inl (by simp)))
    · cases h
      exact .inl (.inl rfl)
  | gap ticks => exact .inl (actIf_sched (f := (State.gap · ticks)) h (.inl (by simp)))
  | startEdge sample => exact .inl (actIf_sched (f := (State.startEdge · sample)) h (.inl (by simp)))
  | lineStuck ticks => exact .inl (actIf_sched (f := (State.lineStuck · ticks)) h (.inl (by simp)))
  | arbitrationLost dataBit =>
    exact .inl (actIf_sched (f := (State.arbitrationLost · dataBit)) h (.inl (by simp)))
  | bitError sample => exact .inl (actIf_sched (f := (State.bitError · sample)) h (.inl (by simp)))
  | transactionEnd => exact .inl (act_sched (f := fun s => s.setHost s.host.endTransaction) h (.inl rfl))
  | attemptBegin => exact .inl (actIf_sched h (.inl (by simp)))
  | arbitrationWon => exact .inl (actIf_sched h (.inl (by simp)))
  | leaveNoticePlaced => exact .inl (actIf_sched h (.inl (by simp)))
  | syncRound => exact .inl (actIf_sched h (.inl (by simp)))
  | listenWindowExpiry => exact .inl (actIf_sched h (.inl (by simp)))
  | leaveTimeout => exact .inl (actIf_sched h (.inl (by simp)))
  | dispatchStart => exact .inl (actIf_sched h (.inl (by simp)))
  | dispatchComplete => exact .inl (actIf_sched h (.inl (by simp)))
  | encoderReadComplete samples => exact .inl (actIf_sched h (.inl (by simp)))
  | recoveryExpiry => exact .inl (actIf_sched h (.inl (by simp)))

end Step

end Sys2Proof.Machine
end

section
/-! SUPPORT. What is known of O55, one half: the bounds and the peer time table's part hold at every step, and the
schedule's part at every step that takes one request. -/

namespace Sys2Proof.Machine

/-! ### The bounds and the peer time table -/

section Step

variable {s t : State}

/-- The state in which a step's event comes about differs from the one before by a choice used or by the command
taken off the queue. -/
structure State.Begun (s u : State) : Prop where
  sched : u.sched = s.sched
  disp : u.disp = s.disp
  time : u.time = s.time

/-- What a step makes of the schedule. -/
theorem step_sched (h : step s = .next t) :
    s.StandsOrEmpty t ∨
      ∃ u, s.Begun u ∧ (t = u.scheduleExpiry ∨ t = u.entryExamined ∨ t = u.takeUnderWay) := by
  have runs {u : State} {i : Instr} (h : exec i u = .next t) (begun : s.Begun u) :
      s.StandsOrEmpty t ∨
        ∃ u, s.Begun u ∧ (t = u.scheduleExpiry ∨ t = u.entryExamined ∨ t = u.takeUnderWay) := by
    obtain (same | empty) | expires | examines := exec_sched h
    · exact .inl (.inl (same.trans begun.sched))
    · exact .inl (.inr empty)
    · exact .inr ⟨u, begun, .inl expires⟩
    · exact .inr ⟨u, begun, .inr (.inl examines)⟩
  unfold step at h
  split at h
  · unfold idle at h
    split at h
    · cases h
      exact .inl (.inl rfl)
    · split at h
      · exact runs h ⟨rfl, rfl, rfl⟩
      · cases h
        exact .inr ⟨s.useChoices 1, ⟨rfl, rfl, rfl⟩, .inr (.inr rfl)⟩
      · cases h
        exact .inl (.inl (by simp))
  · exact runs h ⟨rfl, rfl, rfl⟩

theorem step_keeps_scheduleLength (h : step s = .next t) (few : s.sched.entries.length ≤ 32) :
    t.sched.entries.length ≤ 32 := by
  obtain (same | empty) | ⟨u, begun, does⟩ := step_sched h
  · rw [same]
    exact few
  · simp [empty]
  · have few : u.sched.entries.length ≤ 32 := by rw [begun.sched]; exact few
    obtain rfl | rfl | rfl := does
    · exact (scheduleExpiry_length u).trans few
    · exact entryExamined_length few
    · exact takeUnderWay_length few

theorem step_keeps_bounded (h : step s = .next t) (bounded : s.Bounded) : t.Bounded :=
  let places := step_keeps move_keeps_withinPlaces h { bounded with }
  { places with schedule := step_keeps_scheduleLength h bounded.schedule }

theorem step_keeps_peersLegal (h : step s = .next t) (legal : s.PeersLegal) : t.PeersLegal :=
  step_keeps move_keeps_peersLegal h legal

/-! ### The order of the schedule -/

theorem ordered_of_legal (legal : s.ScheduleLegal) (near : s.ScheduleNear) :
    s.sched.Ordered s.time.lineTime (2 ^ 45) (2 ^ 31) where
  near e mem := ⟨near.due e mem, near.burst e mem, near.train e mem⟩
  byDue := legal.byDue
  byStamp := legal.byStamp
  stamped := legal.stamped
  recent e mem := (near.stamps e mem).le
  counted := legal.remaining

theorem legal_of_ordered {now : LineTime} {d a : Nat} (ordered : t.sched.Ordered now d a) (counts : t.disp.Counts) :
    t.ScheduleLegal where
  byDue := ordered.byDue
  byStamp := ordered.byStamp
  stamped := ordered.stamped
  remaining := ordered.counted
  drives := counts.table
  underWay := counts.underWay

theorem ordered_of_same {now : LineTime} {d a : Nat} (ordered : s.sched.Ordered now d a)
    (stands : s.StandsOrEmpty t) : t.sched.Ordered now d a := by
  obtain same | empty := stands
  · rw [same]
    exact ordered
  · constructor <;> simp [empty]

/-- No request is taken as it is handed on: then an examination takes one request at most. -/
def RequestsWait : Prop := ∀ k, Config.freeChoice k % 2 ≠ 0

theorem entryExamined_sched (wait : RequestsWait) (u : State) :
    u.entryExamined.sched = u.takeUnderWay.sched ∨ u.entryExamined = u := by
  unfold State.entryExamined
  split
  · refine .inl ?_
    simp only [State.examine]
    split
    · simp [passOn_later _ (wait _)]
    · rfl
  · exact .inr rfl
  · exact .inr rfl

theorem step_keeps_order (wait : RequestsWait) (h : step s = .next t) (legal : s.ScheduleLegal)
    (near : s.ScheduleNear) (after : t.ScheduleNear) :
    t.sched.Ordered s.time.lineTime (2 ^ 45 + 2 ^ 38) (2 ^ 31 + 64) := by
  have before := ordered_of_legal legal near
  have counts : s.disp.Counts := ⟨legal.drives, legal.underWay⟩
  obtain stands | ⟨u, begun, does⟩ := step_sched h
  · exact (ordered_of_same before stands).mono (by omega) (by omega)
  have begins : u.sched.Ordered s.time.lineTime (2 ^ 45) (2 ^ 31) := by rw [begun.sched]; exact before
  have taken (time : t.time = s.time) (same : t.sched = u.takeUnderWay.sched) :
      t.sched.Ordered s.time.lineTime (2 ^ 45 + 2 ^ 38) (2 ^ 31 + 64) := by
    have left (e) (mem : e ∈ t.sched.entries) : e.Near s.time.lineTime (2 ^ 45) := by
      rw [← time]
      exact ⟨after.due e mem, after.burst e mem, after.train e mem⟩
    rw [same] at left ⊢
    exact takeUnderWay_ordered begins (by omega) (by omega) (by rw [begun.disp]; exact counts) left
  obtain rfl | rfl | rfl := does
  · exact (scheduleExpiry_ordered begins (by omega) (by omega)).mono (by omega) (by omega)
  · obtain same | same := entryExamined_sched wait u
    · exact taken (by simp [begun.time]) same
    · rw [same]
      exact begins.mono (by omega) (by omega)
  · exact taken (by simp [begun.time]) rfl

/-- Where requests wait, O55 holds. -/
theorem capacitiesKept_of_requestsWait (wait : RequestsWait) : Obligations.CapacitiesKept := fun _ _ h =>
  ⟨step_keeps_bounded h, step_keeps_peersLegal h, fun legal near after =>
    legal_of_ordered (step_keeps_order wait h legal near after)
      (step_keeps move_keeps_counts h ⟨legal.drives, legal.underWay⟩)⟩

end Step

end Sys2Proof.Machine
end

section
/-! SUPPORT. What is known of O55, the other half: where a second request is taken in the same step, the schedule's
part can fail. A DRIVE under way is due 2^47 ticks after an entry that is due already, so that neither is later than
the other, and a CANCEL of its tag is taken in the same step. Where the free choices let two entries expire before
that CANCEL, the DRIVE's entry stands between the two, and once it has been removed they are out of order. Nothing
can be proved of the values of the choices, so that O55 stays unsettled. -/

namespace Sys2Proof.Machine

/-! ### The schedule out of order -/

/-- A DRIVE of one pulse of 5000 ticks. -/
def onePulse (tag : BitVec 4) : DriveParams :=
  { mask := 0, onLevels := 0, width := 5000, delay := 0, innerCount := 1, innerSpacing := 0, outerCount := 1,
    outerSpacing := 0, tag := tag, endEvent := none }

/-- The cause of a DRIVE due at a line time. -/
def causeAt (due : LineTime) : Cause :=
  { event := 4, stamp := due, payload := none, gen := 0, restamped := false, entry := 7 }

/-- An entry due since line time 0 whose OFF phase will be due at another. -/
def overdue (off : LineTime) (seq : BitVec 32) : SchedEntry :=
  { driveEntry (onePulse 1) (causeAt 0) 0 false with burstStart := off - 5000, seq := seq }

/-- The entry that the DRIVE under way inserts. -/
def farEntry : SchedEntry :=
  { driveEntry (onePulse 2) (causeAt (2 ^ 47)) (2 ^ 47) false with seq := 9 }

/-- The occurrence whose dispatch comes to the CANCEL. -/
def cancelling : Occurrence :=
  { event := 4, stamp := 1000, origin := .hostPort, gen := 0, payload := none, restamped := false }

/-- Two entries due since 0 at line time 1000, the DRIVE under way, and the CANCEL the next to be examined. -/
def parting : State :=
  { State.reset with
    station := { State.reset.station with mode := .active }
    time := { TimeUnit.reset with syncTimer := some 1000000, lineTime := 1000 }
    sched := { entries := [overdue 0 7, overdue 1001 8], counter := 9 }
    disp :=
      { State.reset.disp with
        current := some cancelling
        subs := updVec State.reset.disp.subs 0 fun e => { e with event := 4, action := .cancel 2 }
        underWay :=
          some
            { action := .drive (onePulse 2), cause := causeAt (2 ^ 47), actingTime := 1000, sample := 0
              edge := none } }
    pending := [.entryExamined] }

theorem parting_scheduleLegal : parting.ScheduleLegal := by
  have actions : ∀ i : Fin 64, parting.disp.subs[i].action = if i = 0 then .cancel 2 else .capture := by
    decide +kernel
  constructor
  case drives =>
    intro i p drives
    rw [actions] at drives
    split at drives <;> cases drives
  case underWay =>
    intro r p under drives
    cases under
    cases drives
    decide
  all_goals decide +kernel

theorem parting_scheduleNear : parting.ScheduleNear := by constructor <;> decide +kernel

/-- The DRIVE has been taken, and the entry of the CANCEL is examined. -/
def acting : State := (parting.setPending []).takeUnderWay

/-- The CANCEL is to be taken next. -/
def inserted : State := (acting.disarmOnce 0).useChoices 1

/-- One entry more expires first. -/
def State.oneExpires (s : State) : State := (s.useChoices 1).scheduleExpiry

/-- The CANCEL taken after both expiries. -/
def parted : State := ((inserted.oneExpires.oneExpires.putBack []).removeTagged 2).advanceScan

/-- An overdue entry that has expired and waits for its OFF phase. -/
def expired (off : LineTime) (seq : BitVec 32) : SchedEntry := { (overdue off 0).offPending with seq := seq }

theorem inserted_entries : inserted.sched.entries = [overdue 0 7, overdue 1001 8, farEntry] := by decide +kernel

/-- The first entry to expire comes to stand behind the DRIVE's: neither is later than the other. -/
theorem oneExpires_entries :
    inserted.oneExpires.sched.entries = [overdue 1001 8, farEntry, expired 0 10] := by
  decide +kernel

/-- The second comes to stand before the DRIVE's, and so before the first, though it is due later. -/
theorem bothExpire_entries :
    inserted.oneExpires.oneExpires.sched.entries = [expired 1001 11, farEntry, expired 0 10] := by
  decide +kernel

section Choices

variable (taken : Config.freeChoice 0 % 2 = 0) (first : Config.freeChoice 1 % 3 = 2)
  (second : Config.freeChoice 2 % 3 = 2)

include first second in
theorem cancel_inserted : inserted.cancel 2 = (inserted.oneExpires.oneExpires.putBack []).removeTagged 2 := by
  have opened : inserted.isOpen = true := by decide +kernel
  have one : State.expireBefore 2 64 [] inserted = State.expireBefore 2 63 [] inserted.oneExpires :=
    expireBefore_expire inserted_entries (by decide +kernel) first
  have choices : inserted.oneExpires.choices = 2 := by decide +kernel
  have expires : Config.freeChoice inserted.oneExpires.choices % 3 = 2 := by rw [choices, second]
  have two : State.expireBefore 2 63 [] inserted.oneExpires =
      State.expireBefore 2 62 [] inserted.oneExpires.oneExpires :=
    expireBefore_expire oneExpires_entries (by decide +kernel) expires
  have ended : State.expireBefore 2 62 [] inserted.oneExpires.oneExpires =
      inserted.oneExpires.oneExpires.putBack [] :=
    expireBefore_notDue bothExpire_entries (by decide +kernel)
  calc inserted.cancel 2
      = (State.expireBefore 2 64 [] inserted).removeTagged 2 := by
        simp only [State.cancel, opened, Bool.not_true, Bool.false_eq_true, if_false, Config.cancelLookahead]
    _ = (inserted.oneExpires.oneExpires.putBack []).removeTagged 2 := by rw [one, two, ended]

include taken first second

theorem step_parting : step parting = .next parted := by
  have hits : acting.disp.subs[0].matchesOcc cancelling = true := by decide +kernel
  have even : Config.freeChoice (acting.disarmOnce 0).choices % 2 = 0 := by
    rwa [show (acting.disarmOnce 0).choices = 0 by decide +kernel]
  have examined : exec .entryExamined (parting.setPending []) =
      .next (acting.examine 0 cancelling).advanceScan :=
    exec_entryExamined rfl rfl rfl
  have action : acting.disp.subs[0].action = .cancel 2 := by decide +kernel
  calc step parting
      = .next (acting.examine 0 cancelling).advanceScan := examined
    _ = .next
          (inserted.takeRequest
            (acting.handOn acting.disp.subs[0].action (cancelling.causeFor 0))).advanceScan := by
        rw [examine_of_matches hits, passOn_now _ even]
        rfl
    _ = .next (inserted.cancel 2).advanceScan := by rw [State.takeRequest, State.handOn, action]
    _ = .next parted := by rw [cancel_inserted first second, parted]

end Choices

/-- Under these free choices O55 does not hold. -/
theorem not_capacitiesKept_of_choices (taken : Config.freeChoice 0 % 2 = 0)
    (first : Config.freeChoice 1 % 3 = 2) (second : Config.freeChoice 2 % 3 = 2) :
    ¬ Obligations.CapacitiesKept := by
  intro kept
  obtain ⟨-, -, schedule⟩ := kept parting parted (step_parting taken first second)
  have near : parted.ScheduleNear := by constructor <;> decide +kernel
  have order := (schedule parting_scheduleLegal parting_scheduleNear near).byDue
  exact absurd order (by decide +kernel)

end Sys2Proof.Machine
end
